-- ==== Sys2Proof/Word.lean ====
section
/-! DEFINITION. Words of the links and the numbered things of the part (00_scope, "Names and numbering"; 11.1).
A numbered thing with numbers 1 to n is a `Fin n`; its number is its value plus 1. -/

namespace Sys2Proof

/-- A 16-bit word of a segment frame (11.1). -/
abbrev Word := BitVec 16

/-- A sequence or code field of a segment frame (11.1). -/
abbrev Byte := BitVec 8

/-- A roof node address 1 to 63. -/
abbrev Node := Fin 63

/-- A logical pantograph channel L1 to L4. -/
abbrev Chan := Fin 4

/-- A physical roof position P1 to P4. -/
abbrev Pos := Fin 4

/-- A pantograph class 1 to 4. -/
abbrev Cls := Fin 4

/-- A heater zone Z1 to Z10. -/
abbrev Zone := Fin 10

/-- A system id 1 to 8. -/
abbrev SysId := Fin 8

end Sys2Proof
end

