-- ==== Sys2Proof/Syntax.lean ====
section
/-! DEFINITION. The commands of the part: one constructor per row of spec/opcode_table.json. A command that a received frame makes
carries the frame's fields; a timer's expiry names the channel, zone or node whose timer it is (log 1). -/

namespace Sys2Proof

/-- The failure kinds of a frame check, in the order in which R180 tests them. -/
inductive FrameFailure where
  | check | length | unknownClass
  deriving DecidableEq, Repr

/-- The commands. `payload` of a management request is the frame's payload; of a table load or clear, `entry` and `key` are the
payload words after the table word (11.3). `payload` of a report is as received (R151 copies it whole). -/
inductive Instr where
  /-- POWER_ON_RESET (R123). The reset input or application of power returns every block of the part to its power-on values. -/
  | powerOnReset
  /-- ROOF_FRAME_CHECK_FAILURE (R105). A roof frame that fails the check word, length or class test is discarded, the roof check-failure count rises and a LINK-CHECK notice is queued. -/
  | roofFrameCheckFailure (kind : FrameFailure)
  /-- ROOF_FRAME_IGNORED (R105). A valid roof frame with a destination other than 0, a source of 0 or a downward class is ignored without effect. -/
  | roofFrameIgnored
  /-- SAMPLE (R1). A SAMPLE frame from the line sensor is taken as one arrival: it passes the sequence check and its 16 samples enter the current window. -/
  | sample (src : Node) (seq : Byte) (payload : List Word)
  /-- SAMPLE_TIMEOUT (R4). Expiry of the 20 ms sample timeout in LIVE makes the stream STALE and sets the recognised result to STALE. -/
  | sampleTimeout
  /-- CONTACT (R25). A CONTACT report from a pantograph unit sets the last reported position and is applied to the channel in its state. -/
  | contact (src : Node) (seq : Byte) (payload : List Word)
  /-- BREAKER_STATE (R51). A BREAKER-STATE report sets the last breaker report and acts in the current changeover state. -/
  | breakerState (src : Node) (seq : Byte) (payload : List Word)
  /-- SWITCH_STATE (R51). A SWITCH-STATE report sets the last switch report and acts in SWITCHING, CLOSING or POWERED. -/
  | switchState (src : Node) (seq : Byte) (payload : List Word)
  /-- CONTACTOR_STATE (R84). A CONTACTOR-STATE report sets the zone's last contactor report and acts by the zone's state. -/
  | contactorState (src : Node) (seq : Byte) (payload : List Word)
  /-- ANNOUNCE (R110). An ANNOUNCE records the declared role and class and sets the node PRESENT or MISMATCH. -/
  | announce (src : Node) (seq : Byte) (payload : List Word)
  /-- ACK (R117). An ACK whose sequence matches the outstanding slot empties the slot and delivers the outcome; any other ACK is discarded. -/
  | ack (src : Node) (seq : Byte) (code : Byte) (payload : List Word)
  /-- UNKNOWN_REPORT (R181). A REPORT that holds no fields of a known kind counts for presence and mirroring but is delivered to no block. -/
  | unknownReport (src : Node) (seq : Byte) (code : Byte) (payload : List Word)
  /-- TRAIN_FRAME_CHECK_FAILURE (R154). A train frame that fails its check is discarded, the train check-failure count rises and a LINK-CHECK notice is queued. -/
  | trainFrameCheckFailure (kind : FrameFailure)
  /-- TRAIN_FRAME_IGNORED (R154). A valid train frame that is neither a management request nor a node command restarts the silence timer and is otherwise ignored. -/
  | trainFrameIgnored
  /-- UNKNOWN_REQUEST (R155). A management request whose code names no request is answered UNKNOWN-REQUEST. -/
  | unknownRequest (seq : Byte) (code : Byte) (payload : List Word)
  /-- READ_STATUS (R158). Reads a named record and answers OK with its content. -/
  | readStatus (seq : Byte) (payload : List Word)
  /-- READ_ENTRY (R159). Reads a slot or key of a table and answers OK with its content. -/
  | readEntry (seq : Byte) (payload : List Word)
  /-- LOAD_ENTRY_SYSTEM (R13). Loads a System Table slot after the freeze, range, consistency and duplicate checks. -/
  | loadEntrySystem (seq : Byte) (entry : List Word)
  /-- CLEAR_ENTRY_SYSTEM (R14). Empties a System Table slot unless the freeze is in force. -/
  | clearEntrySystem (seq : Byte) (key : List Word)
  /-- LOAD_ENTRY_POSITION (R23). Assigns a position record its node, class and strip zone, and has the roster re-judge the node. -/
  | loadEntryPosition (seq : Byte) (entry : List Word)
  /-- CLEAR_ENTRY_POSITION (R23). Makes a position record unassigned unless the freeze is in force. -/
  | clearEntryPosition (seq : Byte) (key : List Word)
  /-- LOAD_ENTRY_ZONE (R83). Loads a zone's configuration and restarts its pass timer, unless the zone is HEATING or PAUSED. -/
  | loadEntryZone (seq : Byte) (entry : List Word)
  /-- CLEAR_ENTRY_ZONE (R83). Makes a zone unassigned and clears its scheduling state, unless the zone is HEATING or PAUSED. -/
  | clearEntryZone (seq : Byte) (key : List Word)
  /-- LOAD_ENTRY_NODE (R108). Loads a node's configured role and expected report period and sets its presence under R109. -/
  | loadEntryNode (seq : Byte) (entry : List Word)
  /-- CLEAR_ENTRY_NODE (R108). Sets a node's configured role to NONE and its presence to ABSENT. -/
  | clearEntryNode (seq : Byte) (key : List Word)
  /-- LOAD_ENTRY_WINDOW (R139). Loads a Window Table slot after the freeze, address and overlap checks. -/
  | loadEntryWindow (seq : Byte) (entry : List Word)
  /-- CLEAR_ENTRY_WINDOW (R140). Empties a Window Table slot unless the freeze is in force. -/
  | clearEntryWindow (seq : Byte) (key : List Word)
  /-- LOAD_ENTRY_INTERLOCK (R148). Loads an Interlock Table slot after the freeze, validity and duplicate-key checks. -/
  | loadEntryInterlock (seq : Byte) (entry : List Word)
  /-- CLEAR_ENTRY_INTERLOCK (R148). Empties an Interlock Table slot unless the freeze is in force. -/
  | clearEntryInterlock (seq : Byte) (key : List Word)
  /-- LOAD_ENTRY_CONFIG (R160). Sets a configuration item to a clamped value, which takes effect at the time the item gives. -/
  | loadEntryConfig (seq : Byte) (entry : List Word)
  /-- CLEAR_ENTRY_CONFIG (R160). Returns a configuration item to its default. -/
  | clearEntryConfig (seq : Byte) (key : List Word)
  /-- POWER_UP (R55). Orders the power path up under system k, acting by changeover state. -/
  | powerUp (seq : Byte) (payload : List Word)
  /-- POWER_DOWN (R73). Takes the power path down from any state by the shortest path the breaker allows. -/
  | powerDown (seq : Byte) (payload : List Word)
  /-- CHANGEOVER (R75). Names the system expected next and acts by changeover state. -/
  | changeover (seq : Byte) (payload : List Word)
  /-- NEUTRAL_AHEAD (R76). Announces a neutral section; in POWERED it opens the breaker with neutral-announced set. -/
  | neutralAhead (seq : Byte) (payload : List Word)
  /-- SECTION_CLEAR (R55). In COASTING starts the power path for the ordered system; in other states it is refused. -/
  | sectionClear (seq : Byte) (payload : List Word)
  /-- CLEAR_LOCKOUT (R79). Clears a lockout and enters IDLE when no channel is RAISING, UP or LOWERING. -/
  | clearLockout (seq : Byte) (payload : List Word)
  /-- LOWERING_ORDER (R46). Lowers every raised channel whose lowering rank reaches the grade, handing the collector to the Power Path Controller. -/
  | loweringOrder (seq : Byte) (payload : List Word)
  /-- CHANNEL_RESET (R48). Resets one channel: it is lowered, or made DOWN at once, and its fault and counter are cleared. -/
  | channelReset (seq : Byte) (payload : List Word)
  /-- CHANNEL_LOWER (R162). Requests a lowering of one channel with cause ORDER. -/
  | channelLower (seq : Byte) (payload : List Word)
  /-- REMAP (R24). Replaces the role map with a new permutation while every channel is DOWN. -/
  | remap (seq : Byte) (payload : List Word)
  /-- ICE_SEASON (R85). Turns the ice season on or off, starting or stopping the season-only pass timers and ending any scrape run when turned off. -/
  | iceSeason (seq : Byte) (payload : List Word)
  /-- SCRAPE (R98). Orders a scrape run, checked against run, power path and season, and begun with a scrape selection. -/
  | scrape (seq : Byte) (payload : List Word)
  /-- DEPOT_ACCESS (R122). Turns depot access on or off. -/
  | depotAccess (seq : Byte) (payload : List Word)
  /-- NOTICE_FILTER (R167). Sets the filter option of a notice kind. -/
  | noticeFilter (seq : Byte) (payload : List Word)
  /-- PART_RESET (R163). Answers OK, places the response and holds train frames until the OK has been transmitted. -/
  | partReset (seq : Byte) (payload : List Word)
  /-- NODE_COMMAND (R137). A train-side command for a roof node is decided by window and checks, and then dropped, refused or placed in class C. -/
  | nodeCommand (dest : Node) (seq : Byte) (code : Byte) (payload : List Word)
  /-- TAKEOVER_REQUEST_ASSERTED (R120). An asserted takeover request input evaluates the grant conditions, leading to GRANTED or PENDING. -/
  | takeoverRequestAsserted
  /-- TAKEOVER_REQUEST_DEASSERTED (R122). Deassertion of the takeover request ends a grant or a pending takeover and lets the arbiter pick again. -/
  | takeoverRequestDeasserted
  /-- ROOF_TRANSMISSION_COMPLETE (R131). Completion of a roof frame advances the node's sequence counter, fills the outstanding slot, evaluates a pending takeover and picks again. -/
  | roofTransmissionComplete
  /-- TRAIN_TRANSMISSION_COMPLETE (R157). Completion of a train frame picks the next response, notice or mirrored copy. -/
  | trainTransmissionComplete
  /-- RAISE_WINDOW_EXPIRY (R32). The raise window expires in RAISING, and the channel records RAISE-TIMEOUT and enters LOWERING. -/
  | raiseWindowExpiry (ch : Chan)
  /-- LOWER_WINDOW_EXPIRY (R42). The lower window expires, and the channel becomes LOCKED with LOWER-TIMEOUT, taking the controller to LOCKOUT. -/
  | lowerWindowExpiry (ch : Chan)
  /-- LOWER_REPETITION (R40). Every 100 ms in LOWERING, LOWER is placed again in the node's class A slot. -/
  | lowerRepetition (ch : Chan)
  /-- COOLDOWN_EXPIRY (R43). The cooldown expires and the channel becomes DOWN. -/
  | cooldownExpiry (ch : Chan)
  /-- CHANNEL_SUSTAIN_TIMER_EXPIRY (R132). Every 100 ms in RAISING or UP, SUSTAIN is placed for the channel's node. -/
  | channelSustainTimerExpiry (ch : Chan)
  /-- BREAKER_SUSTAIN_TIMER_EXPIRY (R133). Every 100 ms while breaker sustain is on, SUSTAIN is placed for the breaker. -/
  | breakerSustainTimerExpiry
  /-- OPEN_REPETITION (R51). Every 100 ms while the open repetition is on, OPEN is placed for the breaker. -/
  | openRepetition
  /-- RECOGNITION_DEADLINE_EXPIRY (R59). The recognition deadline expires in RECOGNIZING, giving LOWERING with plan IDLE and a RECOGNITION-TIMEOUT notice. -/
  | recognitionDeadlineExpiry
  /-- SWITCH_WINDOW_EXPIRY (R60). The switch window expires, and the controller enters LOCKOUT with SWITCH-FAIL. -/
  | switchWindowExpiry
  /-- SETTLE_INTERVAL_EXPIRY (R60). The settle interval expires, and the controller enters CLOSING. -/
  | settleIntervalExpiry
  /-- CLOSE_WINDOW_EXPIRY (R63). The close window expires, and the controller enters LOCKOUT with BREAKER-CLOSE-FAIL. -/
  | closeWindowExpiry
  /-- OPEN_WINDOW_EXPIRY (R67). The open window expires, and the controller enters LOCKOUT with BREAKER-OPEN-FAIL. -/
  | openWindowExpiry
  /-- NEUTRAL_DEADLINE_EXPIRY (R68). The neutral deadline expires, and the controller enters LOWERING with plan COASTING or IDLE. -/
  | neutralDeadlineExpiry
  /-- TRIP_QUIET_TIMER_EXPIRY (R66). After 60,000 ms in POWERED without a trip, the trip count returns to 0. -/
  | tripQuietTimerExpiry
  /-- PASS_TIMER_EXPIRY (R86). A zone's pass timer falls due, one more pass is owed, and the zone joins the pass queue or is marked ICE-RISK. -/
  | passTimerExpiry (z : Zone)
  /-- STAGGER_TIMER_EXPIRY (R91). The stagger timer expires, and a start decision is made. -/
  | staggerTimerExpiry
  /-- PASS_COMPLETION (R95). A zone's heat accumulator reaches the pass duration, HEAT-OFF is queued and the zone returns to WAITING or IDLE. -/
  | passCompletion (z : Zone)
  /-- SCRAPE_TIMER_EXPIRY (R101). The scrape timer expires, and the run ends with reason DURATION and a lower request with cause SCRAPE-END. -/
  | scrapeTimerExpiry
  /-- NODE_SILENCE (R111). A PRESENT node's report age passes three times its period, so the node becomes SILENT and NODE-SILENT is queued. -/
  | nodeSilence (n : Node)
  /-- ACK_DEADLINE_EXPIRY (R118). The 50 ms ACK deadline passes, the outstanding slot empties, and COMMAND-FAILED or TIMEOUT is delivered. -/
  | ackDeadlineExpiry (n : Node)
  /-- ANNOUNCE_RETRY_TIMER_EXPIRY (R115). Every 1000 ms an ANNOUNCE-REQUEST is placed for every configured ABSENT node. -/
  | announceRetryTimerExpiry
  /-- TRAIN_LINK_SILENCE_EXPIRY (R169). The train-link silence timer expires: the link is marked silent, TRAIN-SILENCE is queued and the safe lowering runs. -/
  | trainLinkSilenceExpiry
  deriving DecidableEq, Repr

end Sys2Proof
end

