-- ==== Sys2Proof/Config.lean ====
section
/-! DEFINITION. The values the spec leaves unstated (free values: constants without a body, so that nothing can be proved of
them), and the fixed intervals of the part. -/

namespace Sys2Proof.Config

/-- FREE VALUE (DESIGN CHOICE, log 14). The word that stands for a value above 65,535 in a place of one word. Safe. -/
opaque wordOver : Nat → Word

/-- FREE VALUE (DESIGN CHOICE, log 14). The two words that stand for a value of 2^32 or more in a place of two words. Safe. -/
opaque wideOver : Nat → Word × Word

/-- FREE VALUE (DESIGN CHOICE, log 15). The two words that READ-STATUS carries for an instant that is absent: R183 gives an instant
as its age and states nothing for an absent one. Safe. -/
opaque absentInstant : Word × Word

/-- FREE VALUE (DESIGN CHOICE, log 15). The age in seconds of a due instant that still lies ahead: its distance to the present is
no age, and R183 and R86 state no value. Safe. -/
opaque futureAge : Nat → Nat

/-- FREE VALUE (DESIGN CHOICE, log 15). The word READ-STATUS of an unbound channel carries as "its node's presence state" (R26):
no node stands there. Safe. -/
opaque noNodePresence : Word

/-- FREE VALUE (DESIGN CHOICE, log 47). The word READ-STATUS of a node carries for a declared role that is absent (R107): R183 gives 0 for
an absent class, channel and the like, and names no role. Safe. -/
opaque absentRole : Word

/-- FREE VALUE (DESIGN CHOICE, log 48). The destination field of the frames the part sends on the train link: R151, R157 and 11.3 give
them a source and no destination. Safe. -/
opaque trainDestination : BitVec 6

/-- FREE VALUE (DESIGN CHOICE, log 12). The five-bit payload length field of an answer of more than 30 payload words: 11.1 gives a
frame at most 30, and R158 asks for more in one response. Safe. -/
opaque overlongLength : Nat → BitVec 5

/-- FREE VALUE (DESIGN CHOICE, log 13). The word READ-STATUS of a node carries for the originator PART of an outstanding command:
11.5 gives the originators no encoding. Safe. -/
opaque partOriginator : Word

/-- FREE VALUE (DESIGN CHOICE, log 13). The word for the originator TRAIN. Safe. -/
opaque trainOriginator : Word

/-- FREE VALUE (log 7). Which lower request for the scrape channel comes first where the controller's entry to LOWERING, LOCKOUT or
IDLE ends a run: the scheduler's, with cause SCRAPE-END, or the controller's. R101 leaves the order open; the argument is the number
of class B placements so far. Safe. -/
opaque schedulerFirst : Nat → Bool

/-- The sample timeout of R4, in ms. -/
def sampleTimeoutMs : Nat := 20
/-- The SUSTAIN period of R132 and R133, in ms. -/
def sustainMs : Nat := 100
/-- The LOWER repetition of R40, in ms. -/
def lowerRepeatMs : Nat := 100
/-- The OPEN repetition of R51 and R78, in ms. -/
def openRepeatMs : Nat := 100
/-- The trip quiet interval of R53 and R66, in ms. -/
def tripQuietMs : Nat := 60000
/-- The ACK deadline of R117, in ms. -/
def ackDeadlineMs : Nat := 50
/-- The announce retry period of R115, in ms. -/
def announceRetryMs : Nat := 1000

end Sys2Proof.Config
end

