-- ==== Sys2Proof/Machine/State.lean ====
section
/-! DEFINITION. The state of the part as plain data, one structure per function block of 00_scope, and its value after power-on
reset. Times are in ms; a timer is `none` when stopped and `some t` with t ms left. -/

namespace Sys2Proof.Machine

/-! ## Faults and refusals -/

/-- The block has no fault that stops it: every failure the spec names is an effect on the state (log 32). Nothing raises one. -/
inductive Fault
  deriving DecidableEq, Repr

/-- Why a command has no meaning. -/
inductive Refusal where
  /-- Raised by `exec` for a command that has no meaning yet (none is left). Safe: nothing is claimed of it. -/
  | notModelled (mnemonic : String)
  deriving DecidableEq, Repr

/-! ## Line Measurement and Recognition (01) -/

/-- The stream states of R2. -/
inductive StreamState where
  | waiting | live | stale
  deriving DecidableEq, Repr

/-- The crossing detector of R7. -/
inductive Detector where
  | unset | high | low
  deriving DecidableEq, Repr

/-- The recognised result and the candidate of R17; window results are `dead`, `unknown`, `ambiguous` and `system`. -/
inductive LineResult where
  | noResult | dead | unknown | ambiguous | stale
  | system (k : SysId)
  deriving DecidableEq, Repr

/-- Stream state, window state (R5) and recognition record (R17). -/
structure Recog where
  stream : StreamState := .waiting
  lastSeq : Option Byte := none
  sampleTimeout : Option Nat := none
  sumS : Int := 0
  sumQ : Nat := 0
  crossings : Nat := 0
  sampleCount : Nat := 0
  detector : Detector := .unset
  mPrev : Int := 0
  /-- H of the window in progress (R11). -/
  windowH : Nat := 500
  result : LineResult := .noResult
  candidate : LineResult := .noResult
  run : Nat := 0
  lastD : Int := 0
  lastA : Nat := 0
  lastF : Nat := 0
  lastC : Nat := 0
  windowCount : Nat := 0
  gapCount : Nat := 0
  deriving DecidableEq, Repr

/-- A system entry of the System Table (R12). Bit i of the mask stands for class i + 1. -/
structure SysEntry where
  id : SysId
  level : Nat
  dMin : Int
  dMax : Int
  aMin : Nat
  aMax : Nat
  fMin : Nat
  fMax : Nat
  confirm : Nat
  mask : BitVec 4
  switchPos : Nat
  allowance : Nat
  deriving DecidableEq, Repr

/-! ## Pantograph Control (02) -/

/-- A pan's reported position (R22, R25). -/
inductive PanPos where
  | down | travel | up
  deriving DecidableEq, Repr

/-- What a POSITION load assigns to a position (R22, R23). -/
structure PosAssign where
  node : Node
  cls : Cls
  strip : Option Zone
  deriving DecidableEq, Repr

/-- A position record (R22). -/
structure PosRec where
  assigned : Option PosAssign := none
  lastPos : Option PanPos := none
  deriving DecidableEq, Repr

/-- The channel states of R26. -/
inductive ChanState where
  | down | raising | up | lowering | cooldown | locked
  deriving DecidableEq, Repr

/-- The duties of R26. -/
inductive Duty where
  | noDuty | collect | scrape
  deriving DecidableEq, Repr

/-- What a channel's phase timer runs as (R26). -/
inductive ChanTimer where
  | raiseWindow | lowerWindow | cooldown
  deriving DecidableEq, Repr

/-- The faults of R26. -/
inductive ChanFault where
  | noFault | raiseTimeout | lowerTimeout | contactLoss | add | unexpectedDrop | nodeSilent | nodeMismatch | commandFailed | reset
  deriving DecidableEq, Repr

/-- The lowering causes of R26. -/
inductive LowerCause where
  | order | fault | graded | changeover | safe | reset | scrapeEnd
  deriving DecidableEq, Repr

/-- A channel record (R26), its sustain timer (R132) and its LOWER repetition (R40). -/
structure Channel where
  state : ChanState := .down
  duty : Duty := .noDuty
  counter : Nat := 0
  limit : Nat := 640
  phase : Option (ChanTimer × Nat) := none
  lastFault : ChanFault := .noFault
  cause : Option LowerCause := none
  rank : Nat := 7
  sustain : Option Nat := none
  lowerRep : Option Nat := none
  /-- The serial of the RAISE that began the current raise (log 10). -/
  raiseSerial : Option Nat := none
  deriving DecidableEq, Repr

/-! ## Power Path Controller (03) -/

/-- The changeover states of R50, in the order of their values (11.5). -/
inductive CoState where
  | idle | raising | recognizing | switching | closing | powered | opening | neutral | lowering | coasting | lockout
  deriving DecidableEq, Repr

/-- The plans of R50. -/
inductive Plan where
  | noPlan | neutral | substitute | idle | coasting
  deriving DecidableEq, Repr

/-- What the changeover's phase timer runs as (R50). -/
inductive CoTimer where
  | recognitionDeadline | switchWindow | settleInterval | closeWindow | openWindow | neutralDeadline
  deriving DecidableEq, Repr

/-- The close progress of R50. -/
inductive CloseProgress where
  | notPlaced | queued | transmitted
  deriving DecidableEq, Repr

/-- The lockout causes of R50. -/
inductive LockoutCause where
  | noCause | breakerOpenFail | breakerCloseFail | switchFail | lowerFail | tripRepeat | nodeMismatch
  deriving DecidableEq, Repr

/-- A breaker report (R51). -/
inductive BreakerPos where
  | opened | closed | travel
  deriving DecidableEq, Repr

/-- The changeover record (R50). -/
structure Changeover where
  state : CoState := .idle
  active : Option SysId := none
  ordered : Option SysId := none
  collector : Option Chan := none
  plan : Plan := .noPlan
  phase : Option (CoTimer × Nat) := none
  close : CloseProgress := .notPlaced
  /-- Breaker sustain: off, or on with the time to the next SUSTAIN (R133). -/
  sustain : Option Nat := none
  /-- Open repetition: off, or on with the time to the next OPEN (R51). -/
  openRep : Option Nat := none
  trips : Nat := 0
  tripQuiet : Option Nat := none
  lockoutCause : LockoutCause := .noCause
  lastBreaker : Option BreakerPos := none
  lastSwitch : Option Nat := none
  neutralAnnounced : Bool := false
  recloseGranted : Bool := false
  substituteUsed : Bool := false
  graded : Bool := false
  /-- The serial of the CLOSE of the current entry to CLOSING (R63, log 10). -/
  closeSerial : Option Nat := none
  /-- The serial of the SWITCH of the current entry to SWITCHING, until a report has shown its position (R61, log 10). -/
  switchSerial : Option Nat := none
  deriving DecidableEq, Repr

/-! ## Heater Scheduler (04) -/

/-- The zone states of R82. -/
inductive ZoneState where
  | idle | waiting | heating | paused
  deriving DecidableEq, Repr

/-- A contactor report (R84). -/
inductive ContactorPos where
  | off | on | fault
  deriving DecidableEq, Repr

/-- A zone record (R82). Durations and intervals are in s, the accumulator, the timer and the instants in ms. -/
structure ZoneRec where
  node : Option Node := none
  rated : Nat := 1
  duration : Nat := 10
  interval : Nat := 60
  seasonOnly : Bool := false
  state : ZoneState := .idle
  owedPasses : Nat := 0
  due : Option Nat := none
  accum : Nat := 0
  passTimer : Option Nat := none
  iceRisk : Bool := false
  forced : Bool := false
  bypassed : Nat := 0
  lastStart : Option Nat := none
  lastReport : Option ContactorPos := none
  /-- The serial of the HEAT-ON of the current start or resume (R96, log 10). -/
  heatOnSerial : Option Nat := none
  deriving DecidableEq, Repr

/-- The run states of R97. -/
inductive RunState where
  | noRun | raising | scraping
  deriving DecidableEq, Repr

/-- The origins of R97. -/
inductive Origin where
  | order | auto
  deriving DecidableEq, Repr

/-- The end reasons of R101. -/
inductive EndReason where
  | duration | channel | changeover | season
  deriving DecidableEq, Repr

/-- The scrape record (R97); `heated` is computed (log 20). -/
structure Scrape where
  run : RunState := .noRun
  chan : Option Chan := none
  forcedZone : Option Zone := none
  origin : Origin := .order
  timer : Option Nat := none
  lastEnd : Option Nat := none
  /-- The instant at which the run became SCRAPING, for the time spent SCRAPING of R102. -/
  since : Option Nat := none
  deriving DecidableEq, Repr

/-- The failure kinds of a ZONE-FAULT notice (R96). -/
inductive ZoneFailure where
  | fault | rejected | noAck | silent | mismatch | offFailed
  deriving DecidableEq, Repr

/-! ## Roof Transmit Arbiter (06) -/

/-- A class A frame (R124). -/
inductive AFrame where
  | lower | opn | sustain
  deriving DecidableEq, Repr

/-- A part-originated class B command. RAISE names the channel and HEAT-ON and HEAT-OFF the zone that its outcome goes to. -/
inductive BCmd where
  | raise (ch : Chan)
  | close
  | switch (p : Nat)
  | heatOn (z : Zone)
  | heatOff (z : Zone)
  | announceRequest
  deriving DecidableEq, Repr

/-- A class B entry (R124); the serial tells one placement from another (log 10). -/
structure BEntry where
  node : Node
  cmd : BCmd
  serial : Nat
  deriving DecidableEq, Repr

/-- A class C entry (R124, R128). -/
structure CEntry where
  node : Node
  code : Byte
  payload : List Word
  trainSeq : Byte
  deriving DecidableEq, Repr

/-- What a roof frame in transmission was made from (R131). -/
inductive RoofItem where
  | classA (n : Node) (f : AFrame)
  | classB (e : BEntry)
  | classC (e : CEntry)
  deriving DecidableEq, Repr

/-- The roof frame in transmission; `fills` is off when a part reset found it in transmission (R136). -/
structure RoofTx where
  item : RoofItem
  seq : Byte
  fills : Bool := true
  deriving DecidableEq, Repr

/-- The arbiter's state (R124). -/
structure Arbiter where
  classA : Vector (Option AFrame) 63 := Vector.replicate 63 none
  classB : List BEntry := []
  classC : List CEntry := []
  bypass : Nat := 0
  tx : Option RoofTx := none
  deriving DecidableEq, Repr

/-! ## Roof Link Interface (05) -/

/-- The roles of R107. -/
inductive Role where
  | noRole | pantographUnit | breaker | changeoverSwitch | heaterContactor | lineSensor | auxiliary
  deriving DecidableEq, Repr

/-- The presence states of R107. -/
inductive Presence where
  | absent | present | silent | mismatch
  deriving DecidableEq, Repr

/-- The originator of an outstanding command (R117). -/
inductive Originator where
  | part (cmd : BCmd) (serial : Nat)
  | train (trainSeq : Byte)
  deriving DecidableEq, Repr

/-- A filled outstanding-command slot (R117). -/
structure Outstanding where
  code : Byte
  seq : Byte
  origin : Originator
  deadline : Nat
  deriving DecidableEq, Repr

/-- A node record (R107). Declared role and class are words as received (R181). -/
structure NodeRec where
  role : Role := .noRole
  period : Nat := 0
  presence : Presence := .absent
  age : Nat := 0
  ageRuns : Bool := false
  declRole : Option Word := none
  declClass : Option Word := none
  seq : Byte := 0
  slot : Option Outstanding := none
  deriving DecidableEq, Repr

/-- The takeover states of section 5.7. -/
inductive TakeState where
  | noTakeover | pending | granted
  deriving DecidableEq, Repr

/-- The takeover state, the request input, the depot access setting and the held-refusal flag (section 5.7). -/
structure Takeover where
  state : TakeState := .noTakeover
  request : Bool := false
  access : Bool := false
  held : Bool := false
  deriving DecidableEq, Repr

/-! ## Forwarding and Interlock (07) -/

/-- The down actions of R138. -/
inductive DownAction where
  | pass | chk | drop
  deriving DecidableEq, Repr

/-- A window entry (R138). -/
structure WindowEntry where
  first : Node
  last : Node
  level : Nat
  down : DownAction
  mirror : Bool
  deriving DecidableEq, Repr

/-- The channel conditions of R147. -/
inductive ChanCond where
  | any | allDown | noCollector
  deriving DecidableEq, Repr

/-- The zone conditions of R147. -/
inductive ZoneCond where
  | any | noneHeating
  deriving DecidableEq, Repr

/-- An interlock entry (R147). Bit v of the set stands for the changeover state of value v (11.4). -/
structure InterlockEntry where
  role : Role
  code : Byte
  states : BitVec 11
  chan : ChanCond
  zone : ZoneCond
  deriving DecidableEq, Repr

/-- The classes of frame a mirrored copy can have (R151). -/
inductive MirrorClass where
  | report | ack
  deriving DecidableEq, Repr

/-- A mirrored copy (R151). -/
structure MirrorCopy where
  src : Node
  cls : MirrorClass
  seq : Byte
  code : Byte
  payload : List Word
  deriving DecidableEq, Repr

/-- The block's tables, buffer and counts (07). -/
structure Forward where
  windows : Vector (Option WindowEntry) 16 := Vector.replicate 16 none
  interlocks : Vector (Option InterlockEntry) 32 := Vector.replicate 32 none
  mirror : List MirrorCopy := []
  passed : Nat := 0
  refused : Nat := 0
  discarded : Nat := 0
  mirrorLoss : Nat := 0
  deriving DecidableEq, Repr

/-! ## Train Link Interface (08) -/

/-- The result codes, in the order of their values (11.5). -/
inductive Result where
  | ok | busy | refusedState | frozen | badEntry | overlap | duplicate | full | noRoute | noRule | interlock | reservedCode | held
  | lockedOut | mismatch | silent | noCollector | accepted | rejected | timeout | unknownRequest
  deriving DecidableEq, Repr

/-- A RESPONSE in the response queue (R155, R156). -/
structure Response where
  seq : Byte
  code : Byte
  result : Result
  data : List Word
  deriving DecidableEq, Repr

/-- The notice kinds, in the order of their values (11.5). -/
inductive NoticeKind where
  | lineChange | recognitionTimeout | systemMismatch | systemSubstituted | recognitionLost | channelFault | arcWatch | noCollector
  | lockout | trip | iceRisk | zoneFault | scrapeEnd | nodeMismatch | nodeSilent | linkCheck | mirrorOverflow | trainSilence
  | noticesLost
  deriving DecidableEq, Repr

/-- The subjects of R165. -/
inductive Subject where
  | none | chan (c : Chan) | zone (z : Zone) | node (n : Node) | trainLink | roofLink
  deriving DecidableEq, Repr

/-- The trip kinds of R66 and R174. -/
inductive TripKind where
  | report | silent
  deriving DecidableEq, Repr

/-- A notice's kind, subject and data, as its queuing rule gives them (08, "Notice kinds"). -/
inductive NoticeData where
  | lineChange (new old : LineResult) (d : Int) (a f c : Nat)
  | recognitionTimeout (active : Option SysId) (result : LineResult)
  | systemMismatch (active : Option SysId) (recognised : SysId) (collector : Option Chan)
  | systemSubstituted (ordered : Option SysId) (new : SysId)
  | recognitionLost (active : Option SysId) (result : LineResult)
  | channelFault (ch : Chan) (fault : ChanFault) (entered : ChanState) (cause : Option LowerCause) (counter limit : Nat)
  | arcWatch (ch : Chan) (counter limit : Nat) (duty : Duty) (arc : Nat) (contact : Bool)
  | noCollector (active : Option SysId) (left : CoState) (lost : Option Chan)
  | lockout (cause : LockoutCause) (left : CoState) (active : Option SysId) (collector : Option Chan)
  | trip (count : Nat) (active : Option SysId) (kind : TripKind)
  | iceRisk (z : Zone) (owed : Nat) (age : Nat) (state : ZoneState)
  | zoneFault (z : Zone) (kind : ZoneFailure) (accum owed : Nat)
  | scrapeEnd (ch : Chan) (reason : EndReason) (origin : Origin) (run : RunState) (time : Nat) (heated : Bool)
  | nodeMismatch (n : Node) (configured : Role) (declRole declClass : Option Word) (expected : Option Cls)
  | nodeSilent (n : Node) (configured : Role) (period age : Nat)
  | linkCheckTrain (kind : FrameFailure) (count : Nat)
  | linkCheckRoof (kind : FrameFailure) (count : Nat)
  | mirrorOverflow (n : Node) (cls : MirrorClass) (code : Byte) (losses : Nat)
  | trainSilence (time : Nat) (state : CoState)
  | noticesLost (count : Nat)
  deriving DecidableEq, Repr

/-- A notice in the Notice Queue (R165). -/
structure Notice where
  data : NoticeData
  rep : Nat
  deriving DecidableEq, Repr

/-- The train frame in transmission (R157). -/
inductive TrainFrame where
  | response (r : Response)
  | notice (seq : Byte) (n : Notice)
  | copy (m : MirrorCopy)
  deriving DecidableEq, Repr

/-- The Train Link Interface (08). Entry i of `filter` is the option of the notice kind of value i + 1, on for "changes only". -/
structure Train where
  responses : List Response := []
  notices : List Notice := []
  overflow : Bool := false
  dropped : Nat := 0
  lost : Nat := 0
  filter : Vector Bool 19 := Vector.replicate 19 false
  lastLine : Option LineResult := none
  lastFault : Vector (Option ChanFault) 4 := Vector.replicate 4 none
  noticeSeq : Byte := 0
  checkFail : Nat := 0
  reqDiscard : Nat := 0
  silence : Option Nat := some 2000
  silent : Bool := false
  tx : Option TrainFrame := none
  resetPending : Bool := false
  deriving DecidableEq, Repr

/-- The configuration set (R160), but for the lowering rank, which stands in the channel record (R26). -/
structure Settings where
  hysteresis : Nat := 500
  deadAc : Nat := 1000
  deadDc : Nat := 1000
  confirm : Nat := 2
  raiseWindow : Nat := 6000
  lowerWindow : Nat := 3000
  cooldown : Nat := 30000
  contactLoss : Nat := 40
  recognitionDeadline : Nat := 5000
  switchWindow : Nat := 4000
  settleInterval : Nat := 200
  closeWindow : Nat := 500
  openWindow : Nat := 300
  neutralDeadline : Nat := 30000
  autoReclose : Bool := true
  acceptCompatible : Bool := false
  stagger : Nat := 2000
  heaterBypass : Nat := 3
  autoScrape : Bool := false
  autoScrapeSpacing : Nat := 600
  scrapeDuration : Nat := 120
  txBypass : Nat := 4
  silenceTime : Nat := 2000
  deriving DecidableEq, Repr

/-! ## The whole part -/

/-- A class B command refused at its placement, whose owner has yet to take COMMAND-FAILED (R112, R126, R176; log 6). -/
structure Owed where
  cmd : BCmd
  serial : Nat
  deriving DecidableEq, Repr

/-- The state of the part, and the queue of commands that wait. -/
structure State where
  recog : Recog := {}
  systems : Vector (Option SysEntry) 8 := Vector.replicate 8 none
  positions : Vector PosRec 4 := Vector.replicate 4 {}
  roleMap : Vector Pos 4 := #v[0, 1, 2, 3]
  channels : Vector Channel 4 := Vector.replicate 4 {}
  co : Changeover := {}
  zones : Vector ZoneRec 10 := Vector.replicate 10 {}
  iceSeason : Bool := false
  stagger : Option Nat := none
  scrape : Scrape := {}
  nodes : Vector NodeRec 63 := Vector.replicate 63 {}
  roofCheckFail : Nat := 0
  announceRetry : Option Nat := some 1000
  takeover : Takeover := {}
  roof : Arbiter := {}
  fwd : Forward := {}
  train : Train := {}
  settings : Settings := {}
  /-- The model's clock, in ms (log 2). -/
  now : Nat := 0
  /-- The number of class B placements so far (log 10). -/
  serial : Nat := 0
  owed : List Owed := []
  pending : List Instr := []
  deriving DecidableEq, Repr

/-- The part right after power-on reset (R5, R12, R17, R22, R24, R26, R50, R82, R97, R107, R123, R124, R138, R147, R153, R160, R164):
every field at the value its declaration gives. -/
def State.reset : State := {}

end Sys2Proof.Machine
end

