-- ==== Sys2Proof/Machine/Operands.lean ====
section
/-! DEFINITION. Operand forms: numbered things, ranges, clamping, and the fields of reports and acknowledgements (11.2, 11.5). -/

namespace Sys2Proof.Machine

/-- The thing numbered w among 1 to n, where there is one. -/
def numbered? (n w : Nat) : Option (Fin n) :=
  if h : 1 ≤ w ∧ w ≤ n then some ⟨w - 1, by omega⟩ else none

/-- The number 1 to n of a numbered thing (00_scope, "Names and numbering"). -/
def number {n : Nat} (i : Fin n) : Nat := i.val + 1

/-- The number of a thing that may be absent: 0 where it is (R183). -/
def numberOr0 {n : Nat} : Option (Fin n) → Nat
  | none => 0
  | some i => number i

/-- A value clamped to the nearest bound of lo to hi (00_scope, "Settings and table entries"). -/
def clamp (lo hi v : Nat) : Nat := max lo (min hi v)

/-- A signed value clamped to the nearest bound of lo to hi. -/
def clampInt (lo hi v : Int) : Int := max lo (min hi v)

/-- A count that adds 1 and stops at the bound (00_scope: saturating). -/
def satSucc (bound v : Nat) : Nat := min bound (v + 1)

/-- Two words as one value, high word first (11.4). -/
def wide (hi lo : Word) : Nat := hi.toNat * 65536 + lo.toNat

/-- Two words as one value in two's complement, high word first (11.4). -/
def wideSigned (hi lo : Word) : Int := (hi ++ lo).toInt

/-- An on-or-off word: 0 off, 1 on, any other names none (11.3, 11.4). -/
def onOff? (w : Word) : Option Bool :=
  if w = 0 then some false else if w = 1 then some true else none

/-- The role of a role value (11.5). -/
def role? (w : Word) : Option Role :=
  match w.toNat with
  | 0 => some .noRole
  | 1 => some .pantographUnit
  | 2 => some .breaker
  | 3 => some .changeoverSwitch
  | 4 => some .heaterContactor
  | 5 => some .lineSensor
  | 6 => some .auxiliary
  | _ => none

/-- A role that a NODE or INTERLOCK load may carry: any but NONE (R108, R148). -/
def loadableRole? (w : Word) : Option Role :=
  match role? w with
  | some .noRole => none
  | r => r

/-- The down action of a value (11.4). -/
def downAction? (w : Word) : Option DownAction :=
  match w.toNat with
  | 0 => some .pass
  | 1 => some .chk
  | 2 => some .drop
  | _ => none

/-- The channel condition of a value (11.4). -/
def chanCond? (w : Word) : Option ChanCond :=
  match w.toNat with
  | 0 => some .any
  | 1 => some .allDown
  | 2 => some .noCollector
  | _ => none

/-- The zone condition of a value (11.4). -/
def zoneCond? (w : Word) : Option ZoneCond :=
  match w.toNat with
  | 0 => some .any
  | 1 => some .noneHeating
  | _ => none

/-- A report that holds the fields of its kind (11.2). -/
inductive Report where
  | contact (pos : PanPos) (contact add : Bool) (arc : Nat)
  | breaker (p : BreakerPos)
  | switch (p : Nat)
  | contactor (p : ContactorPos)
  | announce (role cls : Word)
  deriving DecidableEq, Repr

/-- The fields of a CONTACT word: position in bits 1 to 0, contact flag, ADD flag, arc count in bits 7 to 4 (11.2). -/
def contactFields? (w : Word) : Option Report :=
  let arc := (w.extractLsb' 4 4).toNat
  match (w.extractLsb' 0 2).toNat with
  | 0 => some (.contact .down (w.getLsbD 2) (w.getLsbD 3) arc)
  | 1 => some (.contact .travel (w.getLsbD 2) (w.getLsbD 3) arc)
  | 2 => some (.contact .up (w.getLsbD 2) (w.getLsbD 3) arc)
  | _ => none

/-- The value of a BREAKER-STATE word (11.2). -/
def breakerFields? (w : Word) : Option Report :=
  match w.toNat with
  | 0 => some (.breaker .opened)
  | 1 => some (.breaker .closed)
  | 2 => some (.breaker .travel)
  | _ => none

/-- The value of a SWITCH-STATE word: 0 moving, 1 to 4 at rest (11.2). -/
def switchFields? (w : Word) : Option Report :=
  if w.toNat ≤ 4 then some (.switch w.toNat) else none

/-- The value of a CONTACTOR-STATE word (11.2). -/
def contactorFields? (w : Word) : Option Report :=
  match w.toNat with
  | 0 => some (.contactor .off)
  | 1 => some (.contactor .on)
  | 2 => some (.contactor .fault)
  | _ => none

/-- What a REPORT of this code and payload holds, where it holds the fields of its kind (R181). -/
def report? (code : Byte) (payload : List Word) : Option Report :=
  match code.toNat, payload with
  | 1, w :: _ => contactFields? w
  | 2, w :: _ => breakerFields? w
  | 3, w :: _ => switchFields? w
  | 4, w :: _ => contactorFields? w
  | 5, r :: c :: _ => some (.announce r c)
  | _, _ => none

/-- The outcome of a part-originated command (R118). -/
inductive CmdOutcome where
  | accepted | rejected | failed
  deriving DecidableEq, Repr

/-- The result of an ACK: 17 ACCEPTED, 18 REJECTED, any other first word or none undefined (11.2). -/
def ackResult? : List Word → Option CmdOutcome
  | w :: _ => if w = 17 then some .accepted else if w = 18 then some .rejected else none
  | [] => none

/-- The tables of 11.3, by number. -/
inductive TableName where
  | system | window | interlock | node | position | zone | config
  deriving DecidableEq, Repr

/-- The table of a table word (11.3). -/
def table? (w : Word) : Option TableName :=
  match w.toNat with
  | 1 => some .system
  | 2 => some .window
  | 3 => some .interlock
  | 4 => some .node
  | 5 => some .position
  | 6 => some .zone
  | 7 => some .config
  | _ => none

/-- The notice kind of a value (11.5). -/
def noticeKindIndex? (w : Word) : Option (Fin 19) := numbered? 19 w.toNat

/-- The request codes of 11.3. -/
def isRequestCode (code : Byte) : Bool :=
  let c := code.toNat
  (1 ≤ c && c ≤ 4) || (16 ≤ c && c ≤ 30)

end Sys2Proof.Machine
end

