-- ==== Sys2Proof/Machine/Ops.lean ====
section
/-! DEFINITION. The named operations over the state: reading and updating records, notices, responses, and placements in the Roof
Transmit Arbiter. -/

namespace Sys2Proof.Machine

/-! ## Updates of one record -/

/-- A vector with entry i replaced by f of it. -/
def upd {α : Type} {n : Nat} (v : Vector α n) (i : Fin n) (f : α → α) : Vector α n := v.set i (f v[i])

def State.modRecog (s : State) (f : Recog → Recog) : State := { s with recog := f s.recog }
def State.modPos (s : State) (p : Pos) (f : PosRec → PosRec) : State := { s with positions := upd s.positions p f }
def State.modChan (s : State) (c : Chan) (f : Channel → Channel) : State := { s with channels := upd s.channels c f }
def State.modCo (s : State) (f : Changeover → Changeover) : State := { s with co := f s.co }
def State.modZone (s : State) (z : Zone) (f : ZoneRec → ZoneRec) : State := { s with zones := upd s.zones z f }
def State.modScrape (s : State) (f : Scrape → Scrape) : State := { s with scrape := f s.scrape }
def State.modNode (s : State) (n : Node) (f : NodeRec → NodeRec) : State := { s with nodes := upd s.nodes n f }
def State.modTakeover (s : State) (f : Takeover → Takeover) : State := { s with takeover := f s.takeover }
def State.modRoof (s : State) (f : Arbiter → Arbiter) : State := { s with roof := f s.roof }
def State.modFwd (s : State) (f : Forward → Forward) : State := { s with fwd := f s.fwd }
def State.modTrain (s : State) (f : Train → Train) : State := { s with train := f s.train }
def State.modSettings (s : State) (f : Settings → Settings) : State := { s with settings := f s.settings }

/-! ## Reading -/

/-- The entry of system k in the System Table, where a slot holds it (R12). -/
def sysEntry? (s : State) (k : SysId) : Option SysEntry :=
  (s.systems.toList.filterMap id).find? fun e => e.id = k

/-- The entry of the active system, where there is one. -/
def activeEntry? (s : State) : Option SysEntry := s.co.active.bind (sysEntry? s)

/-- The heater allowance of the active system; 0 with none (R88). -/
def allowance (s : State) : Nat :=
  match activeEntry? s with
  | none => 0
  | some e => e.allowance

/-- The recognised result equals the active system (R62, R65). -/
def resultIsActive (s : State) : Bool :=
  match s.recog.result with
  | .system k => s.co.active = some k
  | _ => false

/-- The node that holds a role of which there is at most one (R107). -/
def nodeOf? (s : State) (r : Role) : Option Node :=
  (List.finRange 63).find? fun n => s.nodes[n].role = r

/-- The position a channel is given by the role map (R24). -/
def posOf (s : State) (c : Chan) : PosRec := s.positions[s.roleMap[c]]

/-- What is assigned to the channel's position; a channel is bound when something is (R25). -/
def assignOf (s : State) (c : Chan) : Option PosAssign := (posOf s c).assigned

/-- The channel's node (R25). -/
def chanNode? (s : State) (c : Chan) : Option Node := (assignOf s c).map PosAssign.node

/-- The channel that the role map gives a position (R24). -/
def chanAt? (s : State) (p : Pos) : Option Chan := (List.finRange 4).find? fun c => s.roleMap[c] = p

/-- The position record that names a node (R22, R23). -/
def posNaming? (s : State) (n : Node) : Option Pos :=
  (List.finRange 4).find? fun p => (s.positions[p].assigned.map PosAssign.node) = some n

/-- The channel whose position names the node. -/
def chanOfNode? (s : State) (n : Node) : Option Chan := (posNaming? s n).bind (chanAt? s)

/-- The zone whose contactor node it is (R83). -/
def zoneOfNode? (s : State) (n : Node) : Option Zone := (List.finRange 10).find? fun z => s.zones[z].node = some n

/-- RAISING or UP. -/
def raised (s : State) (c : Chan) : Bool := s.channels[c].state = .raising ∨ s.channels[c].state = .up

/-- RAISING, UP or LOWERING. -/
def moving (s : State) (c : Chan) : Bool := raised s c ∨ s.channels[c].state = .lowering

/-- The freeze of R13 and R159. -/
def frozen (s : State) : Bool :=
  ((List.finRange 4).any fun c => moving s c) ∨ ¬ (s.co.state = .idle ∨ s.co.state = .lockout)

/-- A depot takeover is GRANTED. -/
def granted (s : State) : Bool := s.takeover.state = .granted

/-- The age of an instant in whole seconds; an instant still ahead has no stated age (log 15). -/
def ageSec (now t : Nat) : Nat := if t ≤ now then (now - t) / 1000 else Config.futureAge (t - now)

/-! ## Notices (8.5) -/

/-- The kind of a notice's data. -/
def NoticeData.kind : NoticeData → NoticeKind
  | .lineChange .. => .lineChange
  | .recognitionTimeout .. => .recognitionTimeout
  | .systemMismatch .. => .systemMismatch
  | .systemSubstituted .. => .systemSubstituted
  | .recognitionLost .. => .recognitionLost
  | .channelFault .. => .channelFault
  | .arcWatch .. => .arcWatch
  | .noCollector .. => .noCollector
  | .lockout .. => .lockout
  | .trip .. => .trip
  | .iceRisk .. => .iceRisk
  | .zoneFault .. => .zoneFault
  | .scrapeEnd .. => .scrapeEnd
  | .nodeMismatch .. => .nodeMismatch
  | .nodeSilent .. => .nodeSilent
  | .linkCheckTrain .. => .linkCheck
  | .linkCheckRoof .. => .linkCheck
  | .mirrorOverflow .. => .mirrorOverflow
  | .trainSilence .. => .trainSilence
  | .noticesLost .. => .noticesLost

/-- The subject of a notice's data (08, "Notice kinds"). -/
def NoticeData.subject : NoticeData → Subject
  | .channelFault ch .. => .chan ch
  | .arcWatch ch .. => .chan ch
  | .scrapeEnd ch .. => .chan ch
  | .iceRisk z .. => .zone z
  | .zoneFault z .. => .zone z
  | .nodeMismatch n .. => .node n
  | .nodeSilent n .. => .node n
  | .mirrorOverflow n .. => .node n
  | .linkCheckTrain .. => .trainLink
  | .linkCheckRoof .. => .roofLink
  | _ => .none

/-- The key of a notice: kind and subject together (R165). -/
def NoticeData.key (d : NoticeData) : NoticeKind × Subject := (d.kind, d.subject)

/-- The value of a notice kind (11.5). -/
def NoticeKind.index : NoticeKind → Fin 19
  | .lineChange => 0
  | .recognitionTimeout => 1
  | .systemMismatch => 2
  | .systemSubstituted => 3
  | .recognitionLost => 4
  | .channelFault => 5
  | .arcWatch => 6
  | .noCollector => 7
  | .lockout => 8
  | .trip => 9
  | .iceRisk => 10
  | .zoneFault => 11
  | .scrapeEnd => 12
  | .nodeMismatch => 13
  | .nodeSilent => 14
  | .linkCheck => 15
  | .mirrorOverflow => 16
  | .trainSilence => 17
  | .noticesLost => 18

/-- The filter does not create the notice: its kind is under "changes only" and its value is the one last sent (R167). -/
def filtered (t : Train) (d : NoticeData) : Bool :=
  t.filter[d.kind.index] &&
    match d with
    | .lineChange new .. => t.lastLine = some new
    | .channelFault ch fault .. => t.lastFault[ch] = some fault
    | _ => false

/-- The queue with the notice coalesced into the waiting one of its key (R165). -/
def coalesce (d : NoticeData) (q : List Notice) : List Notice :=
  q.map fun n => if n.data.key = d.key then { data := d, rep := satSucc 255 n.rep } else n

/-- The Train Link Interface after a block queues a notice: filter, coalesce, create or drop (R165 to R167). -/
def noteNotice (d : NoticeData) (t : Train) : Train :=
  if filtered t d then t
  else if t.notices.any fun n => n.data.key = d.key then { t with notices := coalesce d t.notices }
  else if t.notices.length < 32 then { t with notices := t.notices ++ [{ data := d, rep := 1 }] }
  else { t with overflow := true, dropped := satSucc 65535 t.dropped, lost := satSucc 65535 t.lost }

/-- A block queues a notice (R165 to R167). -/
def queueNotice (d : NoticeData) (s : State) : State := s.modTrain (noteNotice d)

/-! ## Responses (8.1) -/

/-- A RESPONSE is placed at the end of the response queue (R156). -/
def addResponse (r : Response) (s : State) : State :=
  s.modTrain fun t => { t with responses := t.responses ++ [r] }

/-! ## Placements in the Roof Transmit Arbiter (6.1) -/

/-- What the slot holds after a class A placement (R125). -/
def slotAfter (f : AFrame) (held : Option AFrame) : Option AFrame :=
  match f, held with
  | .sustain, some h => some h
  | f, _ => some f

/-- An owner places a LOWER, an OPEN or a SUSTAIN in a node's class A slot (R125). -/
def placeA (n : Node) (f : AFrame) (s : State) : State :=
  s.modRoof fun r => { r with classA := upd r.classA n (slotAfter f) }

/-- An unsent SUSTAIN is removed from a node's class A slot (R134). -/
def removeSustain (n : Node) (s : State) : State :=
  s.modRoof fun r => { r with classA := upd r.classA n fun h => if h = some .sustain then none else h }

/-- An unsent LOWER is removed from a node's class A slot (R126). -/
def removeLower (n : Node) (s : State) : State :=
  s.modRoof fun r => { r with classA := upd r.classA n fun h => if h = some .lower then none else h }

/-- A node's class A slot is emptied (R48, R136). -/
def clearSlotA (n : Node) (s : State) : State :=
  s.modRoof fun r => { r with classA := upd r.classA n fun _ => none }

/-- The bound of the class B queue (R124). -/
def classBMax : Nat := 16

/-- An ANNOUNCE-REQUEST entry. -/
def BEntry.isAnnounce (e : BEntry) : Bool := e.cmd = .announceRequest

/-- The class B queue after a placement; `none` where the table of R126 refuses it. -/
def insertB (e : BEntry) (q : List BEntry) : Option (List BEntry) :=
  if q.any fun x => x.node = e.node then some (q.map fun x => if x.node = e.node then e else x)
  else if q.length < classBMax then some (q ++ [e])
  else if q.any BEntry.isAnnounce then some (q.eraseP BEntry.isAnnounce ++ [e])
  else none

/-- A refused command's owner will take COMMAND-FAILED after the action that placed it (R112, R126). -/
def owe (c : BCmd) (serial : Nat) (s : State) : State := { s with owed := s.owed ++ [⟨c, serial⟩] }

/-- A RAISE placed for a node removes an unsent LOWER from its class A slot (R126). -/
def raiseClearsLower (n : Node) (c : BCmd) (s : State) : State :=
  match c with
  | .raise _ => removeLower n s
  | _ => s

/-- An owner places a class B command for a node (R126); refused for a MISMATCH node (R112). A RAISE that the full queue refuses leaves
an unsent LOWER in its slot (log 56). -/
def placeB (n : Node) (c : BCmd) (s : State) : State :=
  let k := s.serial
  let s := { s with serial := k + 1 }
  if s.nodes[n].presence = .mismatch then owe c k s
  else
    match insertB ⟨n, c, k⟩ s.roof.classB with
    | none => owe c k s
    | some q => raiseClearsLower n c (s.modRoof fun r => { r with classB := q })

/-- A command for the node of a role; with no such node it is refused at once (R176). -/
def placeForRole (r : Role) (c : BCmd) (s : State) : State :=
  match nodeOf? s r with
  | some n => placeB n c s
  | none => owe c s.serial { s with serial := s.serial + 1 }

/-- A class A frame for the breaker; with no node of the role, none is placed (R176). -/
def placeABreaker (f : AFrame) (s : State) : State :=
  match nodeOf? s .breaker with
  | some n => placeA n f s
  | none => s

/-- The queued CLOSE is withdrawn (R127). -/
def withdrawClose (s : State) : State :=
  s.modRoof fun r => { r with classB := r.classB.filter fun e => e.cmd ≠ .close }

/-- The command is a RAISE. -/
def BCmd.isRaise : BCmd → Bool
  | .raise _ => true
  | _ => false

/-- A queued RAISE for the node is withdrawn (R127). -/
def withdrawRaise (n : Node) (s : State) : State :=
  s.modRoof fun r => { r with classB := r.classB.filter fun e => ! (decide (e.node = n) && e.cmd.isRaise) }

/-- The roster places an ANNOUNCE-REQUEST for a node, unless R115 or R126 holds it back. -/
def placeAnnounce (n : Node) (s : State) : State :=
  if granted s ∨ (s.roof.classB.any fun e => e.node = n) ∨ classBMax ≤ s.roof.classB.length then s
  else { s with serial := s.serial + 1 }.modRoof fun r => { r with classB := r.classB ++ [(⟨n, .announceRequest, s.serial⟩ : BEntry)] }

/-- An ANNOUNCE-REQUEST for every configured ABSENT node, lowest address first (R115). -/
def announceAbsent (s : State) : State :=
  (List.finRange 63).foldl
    (fun s n => if s.nodes[n].role ≠ .noRole ∧ s.nodes[n].presence = .absent then placeAnnounce n s else s) s

end Sys2Proof.Machine
end

