-- ==== Sys2Proof/Machine/Zones.lean ====
section
/-! DEFINITION. The Heater Scheduler (04): gate, budget, pass queue, starts, completions, failures, and the scrape record. -/

namespace Sys2Proof.Machine

/-! ## Gate and budget (4.3) -/

/-- The heater gate of R88. -/
def gateOpen (s : State) : Bool := s.co.state = .powered ∧ 0 < allowance s ∧ ¬ granted s

/-- The load: rated powers of the HEATING zones (R90). -/
def heatingLoad (s : State) : Nat :=
  ((List.finRange 10).map fun z => if s.zones[z].state = .heating then s.zones[z].rated else 0).sum

/-- The zone fits in the budget (R90). -/
def fits (s : State) (z : Zone) : Bool := heatingLoad s + s.zones[z].rated ≤ allowance s

/-- The zone's contactor node is PRESENT (R90). -/
def nodePresent (s : State) (z : Zone) : Bool :=
  match s.zones[z].node with
  | none => false
  | some n => s.nodes[n].presence = .present

/-- The zone can start (R90). -/
def canStart (s : State) (z : Zone) : Bool := fits s z ∧ nodePresent s z ∧ gateOpen s

/-- The order of the pass queue: earlier oldest due instant, then lower zone number (R87). -/
def dueBefore (s : State) (z w : Zone) : Bool :=
  (s.zones[z].due.getD 0) < (s.zones[w].due.getD 0) ∨ ((s.zones[z].due.getD 0) = (s.zones[w].due.getD 0) ∧ z ≤ w)

/-- The pass queue: exactly the WAITING zones, by oldest due instant (R87; log 20). -/
def passQueue (s : State) : List Zone :=
  ((List.finRange 10).filter fun z => s.zones[z].state = .waiting).insertionSort fun z w => dueBefore s z w

/-- The forced zone is HEATING with its forced flag set (R97). -/
def heated (s : State) : Bool :=
  match s.scrape.forcedZone with
  | none => false
  | some z => s.zones[z].state = .heating ∧ s.zones[z].forced

/-! ## Commands to contactors -/

/-- HEAT-OFF is queued for the zone's node (R84, R95). -/
def placeHeatOff (z : Zone) (s : State) : State :=
  match s.zones[z].node with
  | none => s
  | some n => placeB n (.heatOff z) s

/-- HEAT-OFF is queued for the zone's node, except when the node is MISMATCH (R89, R96, R104). -/
def placeHeatOffUnlessMismatch (z : Zone) (s : State) : State :=
  match s.zones[z].node with
  | none => s
  | some n => if s.nodes[n].presence = .mismatch then s else placeB n (.heatOff z) s

/-- HEAT-ON is queued for the zone's node (R94). -/
def placeHeatOn (z : Zone) (s : State) : State :=
  match s.zones[z].node with
  | none => s
  | some n => placeB n (.heatOn z) s

/-! ## Starts and pauses -/

/-- A zone becomes HEATING: steps 1 and 3 to 5 of R94, and the stagger timer of R91. -/
def heat (z : Zone) (s : State) : State :=
  let k := s.serial
  let s := s.modZone z fun r => { r with state := .heating, lastStart := some s.now, heatOnSerial := some k }
  let s := placeHeatOn z s
  { s with stagger := some s.settings.stagger }

/-- A zone starts from the queue (R94). -/
def startZone (z : Zone) (s : State) : State := heat z (s.modZone z fun r => { r with bypassed := 0 })

/-- A HEATING zone becomes PAUSED with HEAT-OFF queued and its accumulator held (R89). -/
def pauseZone (z : Zone) (s : State) : State :=
  placeHeatOffUnlessMismatch z (s.modZone z fun r => { r with state := .paused })

/-- The gate closes (R89). -/
def closeGate (s : State) : State :=
  let s := (List.finRange 10).foldl (fun s z => if s.zones[z].state = .heating then pauseZone z s else s) s
  { s with stagger := none }

/-- The zone can start in a decision that leaves out `but` (R90, R96). -/
def startable (but : Option Zone) (s : State) (z : Zone) : Bool := canStart s z ∧ but ≠ some z

/-- The first zone of a list that can start. -/
def firstStartable (but : Option Zone) (s : State) (l : List Zone) : Option Zone := l.find? fun z => startable but s z

/-- The PAUSED zones in zone-number order. -/
def pausedZones (s : State) : List Zone := (List.finRange 10).filter fun z => s.zones[z].state = .paused

/-- Steps 2 to 4 of R93: the head, or a later zone within the heater bypass limit, or nothing. -/
def startFromQueue (but : Option Zone) (s : State) : State :=
  match passQueue s with
  | [] => s
  | head :: later =>
    if startable but s head then startZone head s
    else if s.zones[head].bypassed < s.settings.heaterBypass then
      match firstStartable but s later with
      | none => s
      | some z => (startZone z s).modZone head fun r => { r with bypassed := min 7 (r.bypassed + 1) }
    else s

/-- A start decision that leaves a zone out, where R91 makes one: gate open and stagger timer stopped. -/
def startDecisionBut (but : Option Zone) (s : State) : State :=
  if gateOpen s ∧ s.stagger = none then
    match firstStartable but s (pausedZones s) with
    | some z => heat z s
    | none => startFromQueue but s
  else s

/-- A start decision (R91, R93). -/
def startDecision (s : State) : State := startDecisionBut none s

/-- Resumes a PAUSED zone where it can start (R92). -/
def resumeIfAble (s : State) (z : Zone) : State := if canStart s z then heat z s else s

/-- The gate opens: forced PAUSED zones, then the rest, are resumed; with none resumed a start decision is made (R92). -/
def openGate (s : State) : State :=
  let paused := pausedZones s
  let order := (paused.filter fun z => s.zones[z].forced) ++ (paused.filter fun z => ! s.zones[z].forced)
  let t := order.foldl resumeIfAble s
  if order.any fun z => t.zones[z].state = .heating then t else startDecision t

/-- The gate is evaluated after a change, `was` being the gate before it (R88). -/
def gateChange (was : Bool) (s : State) : State :=
  if was && ! gateOpen s then closeGate s
  else if ! was && gateOpen s then openGate s
  else s

/-! ## Passes (4.2, 4.4) -/

/-- The zone's record when its pass timer falls due: one more pass is owed, and at 8 the zone is ICE-RISK (R86). -/
def owePass (now : Nat) (r : ZoneRec) : ZoneRec :=
  let r := { r with passTimer := some (r.interval * 1000) }
  if r.owedPasses = 0 then { r with owedPasses := 1, due := some now, state := .waiting }
  else if r.owedPasses < 8 then { r with owedPasses := r.owedPasses + 1 }
  else { r with iceRisk := true }

/-- The ICE-RISK notice of an expiry that sets ICE-RISK or finds it set, whatever the count (R86). -/
def iceNotice (z : Zone) (s : State) : State :=
  let r := s.zones[z]
  if r.iceRisk then queueNotice (.iceRisk z r.owedPasses (ageSec s.now (r.due.getD s.now)) r.state) s else s

/-- A pass timer falls due (R86); a zone that owed no pass joins the pass queue, which makes a start decision (R91). -/
def passDue (z : Zone) (s : State) : State :=
  let t := iceNotice z (s.modZone z (owePass s.now))
  if s.zones[z].owedPasses = 0 then startDecision t else t

/-- The zone's record at the end of a pass: steps 2 to 6 of R95. -/
def endPass (r : ZoneRec) : ZoneRec :=
  let p := r.owedPasses - 1
  if 0 < p then
    { r with owedPasses := p, accum := 0, due := r.due.map (· + r.interval * 1000), state := .waiting, forced := false }
  else
    { r with owedPasses := 0, accum := 0, due := none, state := .idle, iceRisk := false, forced := false }

/-- A pass is complete (R95). -/
def passComplete (z : Zone) (s : State) : State :=
  startDecision ((placeHeatOff z s).modZone z endPass)

/-- A contactor failure (R96). The start decision it makes leaves the failed zone out, which a later one may start (log 45). -/
def contactorFailure (z : Zone) (kind : ZoneFailure) (s : State) : State :=
  let s := s.modZone z fun r => { r with state := .waiting, forced := false }
  let s := placeHeatOffUnlessMismatch z s
  startDecisionBut (some z) (queueNotice (.zoneFault z kind s.zones[z].accum s.zones[z].owedPasses) s)

/-- A CONTACTOR-STATE report for a zone (R84). -/
def contactorReport (z : Zone) (p : ContactorPos) (s : State) : State :=
  let s := s.modZone z fun r => { r with lastReport := some p }
  match p with
  | .on => if s.zones[z].state = .heating then s else placeHeatOff z s
  | .off => s
  | .fault => if s.zones[z].state = .heating then contactorFailure z .fault s else s

/-- The contactor node of a HEATING zone is lost (R96). -/
def contactorLost (n : Node) (kind : ZoneFailure) (s : State) : State :=
  match zoneOfNode? s n with
  | none => s
  | some z => if s.zones[z].state = .heating then contactorFailure z kind s else s

/-- A presence change of a contactor node, which R113 hands on whether or not a zone holds the node (R84, R91, R96; log 44). -/
def contactorPresence (n : Node) (s : State) : State :=
  match s.nodes[n].presence with
  | .present => startDecision s
  | .absent => s
  | .silent => contactorLost n .silent s
  | .mismatch => contactorLost n .mismatch s

/-- The zone's pass timer runs under the two conditions of R85. -/
def timerRuns (ice : Bool) (r : ZoneRec) : Bool := r.node.isSome && (! r.seasonOnly || ice)

/-- The pass timer restarted with the full interval where it runs, else stopped (R83, R85, R104). -/
def restartTimer (ice : Bool) (r : ZoneRec) : ZoneRec :=
  { r with passTimer := if timerRuns ice r then some (r.interval * 1000) else none }

/-! ## Scrape runs, as far as the scheduler's own records go (4.5) -/

/-- A run in progress ends (R102). -/
def endRun (why : EndReason) (s : State) : State :=
  if s.scrape.run = .noRun then s
  else
    let time := match s.scrape.since with | none => 0 | some t => s.now - t
    let s' := match s.scrape.chan with
      | none => s
      | some c => queueNotice (.scrapeEnd c why s.scrape.origin s.scrape.run time (heated s)) s
    s'.modScrape fun r =>
      { r with run := .noRun, chan := none, forcedZone := none, timer := none, lastEnd := some s.now, since := none }

/-- A start later than another: by last start instant, and within one instant by the order of the starts (log 11). -/
def startedAfter (s : State) (z w : Zone) : Bool :=
  (s.zones[w].lastStart.getD 0) < (s.zones[z].lastStart.getD 0) ∨
    ((s.zones[w].lastStart.getD 0) = (s.zones[z].lastStart.getD 0) ∧
      (s.zones[w].heatOnSerial.getD 0) < (s.zones[z].heatOnSerial.getD 0))

/-- The HEATING zone other than z that started last (R100). -/
def newestHeating (s : State) (z : Zone) : Option Zone :=
  ((List.finRange 10).filter fun w => w ≠ z ∧ s.zones[w].state = .heating).foldl
    (fun best w => match best with
      | none => some w
      | some b => if startedAfter s w b then some w else some b) none

/-- Sheds HEATING zones, newest first, until z fits (R100). Ten rounds reach every other zone. -/
def shed : Nat → Zone → State → State
  | 0, _, s => s
  | k + 1, z, s =>
    if fits s z then s
    else
      match newestHeating s z with
      | none => s
      | some w => shed k z (pauseZone w s)

/-- The strip zone can be forced: assigned, node PRESENT, gate open, within the allowance alone (R100). -/
def forcible (s : State) (z : Zone) : Bool := nodePresent s z ∧ gateOpen s ∧ s.zones[z].rated ≤ allowance s

/-- An IDLE zone that is forced has one pass made owed (R100). -/
def oweForcedPass (now : Nat) (r : ZoneRec) : ZoneRec :=
  if r.state = .idle then { r with owedPasses := 1, due := some now } else r

/-- A zone is put to heat for a run (R100). -/
def forceZone (z : Zone) (s : State) : State :=
  let s := (s.modScrape fun r => { r with forcedZone := some z }).modZone z fun r => { r with forced := true }
  match s.zones[z].state with
  | .heating => s
  | .paused => heat z (shed 10 z s)
  | .waiting => startZone z (shed 10 z s)
  | .idle => startZone z (shed 10 z (s.modZone z (oweForcedPass s.now)))

/-- The strip zone of a run's channel is forced, or the run proceeds unheated (R100). -/
def forceStrip (strip : Option Zone) (s : State) : State :=
  match strip with
  | none => s
  | some z => if forcible s z then forceZone z s else s

/-- The scheduler's reaction to a change of the scrape channel's state (R99, R101). -/
def scrapeOnChannel (c : Chan) (old new : ChanState) (s : State) : State :=
  if s.scrape.run ≠ .noRun ∧ s.scrape.chan = some c then
    if old = .raising ∧ new = .up then
      s.modScrape fun r =>
        { r with run := .scraping, timer := some (s.settings.scrapeDuration * 1000), since := some s.now }
    else if (old = .raising ∨ old = .up) ∧ ¬ (new = .raising ∨ new = .up) then endRun .channel s
    else s
  else s

end Sys2Proof.Machine
end

