-- ==== Sys2Proof/Machine/Channels.lean ====
section
/-! DEFINITION. Pantograph Control (02): eligibility and selection, the entries to the channel states, lower and raise requests, and
the start of a scrape run. Each entry hands the change to the Heater Scheduler (R45); the Power Path Controller's part of the hand-on
is `coOnChannel` in Power.lean, which the channel's own events call after the entry. -/

namespace Sys2Proof.Machine

/-! ## Eligibility and selection (2.2) -/

/-- A class lies in a class mask (R12). -/
def classIn (c : Cls) (mask : BitVec 4) : Bool := mask.getLsbD c.val

/-- The channel's class lies in system k's class mask (R27, R59, R69). -/
def fitsSystem (s : State) (k : SysId) (c : Chan) : Bool :=
  match sysEntry? s k, assignOf s c with
  | some e, some a => classIn a.cls e.mask
  | _, _ => false

/-- The channel's node is PRESENT. -/
def chanNodePresent (s : State) (c : Chan) : Bool :=
  match chanNode? s c with
  | none => false
  | some n => s.nodes[n].presence = .present

/-- The channel is eligible for system k (R27). -/
def eligible (s : State) (k : SysId) (c : Chan) : Bool :=
  s.channels[c].state = .down ∧ chanNodePresent s c ∧ fitsSystem s k c

/-- The strip zone of the channel's position is ICE-RISK; a strip zone none is not (R28). -/
def stripIceRisk (s : State) (c : Chan) : Bool :=
  match (assignOf s c).bind PosAssign.strip with
  | none => false
  | some z => s.zones[z].iceRisk

/-- Collect selection for system k (R28). -/
def collectSelect (s : State) (k : SysId) : Option Chan :=
  let l := (List.finRange 4).filter fun c => eligible s k c
  match l.find? fun c => ! stripIceRisk s c with
  | some c => some c
  | none => l.head?

/-- Scrape selection for system k (R29). -/
def scrapeSelect (s : State) (k : SysId) : Option Chan :=
  ((List.finRange 4).filter fun c => eligible s k c ∧ s.channels[c].duty ≠ .collect).getLast?

/-- The counter limit for a duty under the contact-loss setting L (R36). -/
def counterLimit (l : Nat) : Duty → Nat
  | .scrape => min 4080 (32 * l)
  | _ => 16 * l

/-! ## Frames for a channel's node -/

/-- A class A frame for the channel's node. -/
def placeAChan (c : Chan) (f : AFrame) (s : State) : State :=
  match chanNode? s c with
  | none => s
  | some n => placeA n f s

/-- An unsent SUSTAIN of the channel's node is removed (R134). -/
def removeSustainChan (c : Chan) (s : State) : State :=
  match chanNode? s c with
  | none => s
  | some n => removeSustain n s

/-- A queued RAISE of the channel's node is withdrawn (R127). -/
def withdrawRaiseChan (c : Chan) (s : State) : State :=
  match chanNode? s c with
  | none => s
  | some n => withdrawRaise n s

/-- RAISE for the channel's node in class B (R31). -/
def placeRaise (c : Chan) (s : State) : State :=
  match chanNode? s c with
  | none => s
  | some n => placeB n (.raise c) s

/-! ## Entries to the channel states (2.3) -/

/-- The recording of a fault queues a CHANNEL-FAULT notice with the state entered, the lowering cause where that is LOWERING, and the
counter and limit at the moment of the fault (R45, log 16, log 34). -/
def faultNotice (c : Chan) (f : ChanFault) (entered : ChanState) (cause : Option LowerCause) (counter limit : Nat) (s : State) :
    State :=
  if f = .noFault then s
  else queueNotice (.channelFault c f entered (if entered = .lowering then cause else none) counter limit) s

/-- The channel's record on entry to LOWERING (R40). -/
def loweringRecord (cause : LowerCause) (window : Nat) (r : Channel) : Channel :=
  { r with state := .lowering, duty := .noDuty, cause := some cause, phase := some (.lowerWindow, window), sustain := none,
           lowerRep := some Config.lowerRepeatMs }

/-- Entry to LOWERING without the hand-on: record, RAISE withdrawn, LOWER in class A (R40). -/
def lowerCore (c : Chan) (cause : LowerCause) (s : State) : State :=
  let s := s.modChan c (loweringRecord cause s.settings.lowerWindow)
  placeAChan c .lower (withdrawRaiseChan c s)

/-- A channel in RAISING or UP enters LOWERING on request (R40), and the change is handed to the scheduler (R45). -/
def enterLowering (c : Chan) (cause : LowerCause) (s : State) : State :=
  scrapeOnChannel c s.channels[c].state .lowering (lowerCore c cause s)

/-- A channel in RAISING or UP records a fault and enters LOWERING with cause FAULT (R40, R45). -/
def faultLowering (c : Chan) (f : ChanFault) (s : State) : State :=
  let old := s.channels[c].state
  let s := lowerCore c .fault (s.modChan c fun r => { r with lastFault := f })
  scrapeOnChannel c old .lowering (faultNotice c f .lowering (some .fault) s.channels[c].counter s.channels[c].limit s)

/-- The answers to a lower request (R40). -/
inductive LowerAnswer where
  | ok | refused
  deriving DecidableEq, Repr

/-- How a lower request for the channel is answered (R40). -/
def lowerAnswer (s : State) (c : Chan) : LowerAnswer := if moving s c then .ok else .refused

/-- A lower request: a raised channel enters LOWERING, any other is left as it is (R40). -/
def lowerRequest (c : Chan) (cause : LowerCause) (s : State) : State :=
  if raised s c then enterLowering c cause s else s

/-- A lower request for every channel still in RAISING or UP (R71, R74, R78). -/
def lowerAll (cause : LowerCause) (s : State) : State :=
  (List.finRange 4).foldl (fun s c => lowerRequest c cause s) s

/-- The channel's record on entry to RAISING (R31, R132). -/
def raisingRecord (duty : Duty) (limit window serial : Nat) (r : Channel) : Channel :=
  { r with state := .raising, duty := duty, counter := 0, limit := limit, phase := some (.raiseWindow, window),
           sustain := some Config.sustainMs, raiseSerial := some serial }

/-- The raise window at an entry to RAISING: doubled when the strip zone is ICE-RISK (R31). -/
def raiseWindowFor (s : State) (c : Chan) : Nat :=
  if stripIceRisk s c then 2 * s.settings.raiseWindow else s.settings.raiseWindow

/-- Entry to RAISING (R31). -/
def enterRaising (c : Chan) (duty : Duty) (s : State) : State :=
  let s := s.modChan c (raisingRecord duty (counterLimit s.settings.contactLoss duty) (raiseWindowFor s c) s.serial)
  placeAChan c .sustain (placeRaise c s)

/-- The checks of a raise request (R30). -/
def raiseAdmitted (s : State) (c : Chan) (duty : Duty) (k : SysId) : Bool :=
  ¬ granted s ∧ eligible s k c ∧ ¬ ((List.finRange 4).any fun d => d ≠ c ∧ raised s d ∧ s.channels[d].duty = duty)

/-- A raise request for the active system (R30). -/
def raiseRequest (c : Chan) (duty : Duty) (s : State) : State :=
  match s.co.active with
  | none => s
  | some k => if raiseAdmitted s c duty k then enterRaising c duty s else s

/-- A state in which the pan is down, entered from elsewhere: timers, sustain, repetition and duty stop and the counter clears
(R37, R38, R41, R43, R48, R49). -/
def restRecord (st : ChanState) (phase : Option (ChanTimer × Nat)) (r : Channel) : Channel :=
  { r with state := st, duty := .noDuty, counter := 0, phase := phase, sustain := none, lowerRep := none }

/-- The record and the notice of an entry to LOCKED with fault ADD from a state other than LOWERING and LOCKED (R37, R45; log 34). -/
def addLocks (c : Chan) (s : State) : State :=
  let r := s.channels[c]
  faultNotice c .add .locked none r.counter r.limit
    (s.modChan c fun r => { restRecord .locked none r with lastFault := .add })

/-- ADD with DOWN in RAISING or UP: LOCKED, with an unsent SUSTAIN removed and a queued RAISE withdrawn (R37, R127, R134). In DOWN and
COOLDOWN the table of R37 gives `addLocks` alone. -/
def lockOnAdd (c : Chan) (s : State) : State :=
  scrapeOnChannel c s.channels[c].state .locked (withdrawRaiseChan c (removeSustainChan c (addLocks c s)))

/-- An unexpected drop (R38). -/
def dropToCooldown (c : Chan) (s : State) : State :=
  let r := s.channels[c]
  let s := s.modChan c fun r =>
    { restRecord .cooldown (some (.cooldown, s.settings.cooldown)) r with lastFault := .unexpectedDrop }
  scrapeOnChannel c r.state .cooldown
    (faultNotice c .unexpectedDrop .cooldown none r.counter r.limit (removeSustainChan c s))

/-- The state that follows a lowering (R41). -/
def afterLowering (r : Channel) : ChanState :=
  if r.cause = some .fault then (if r.lastFault = .add then .locked else .cooldown) else .down

/-- The end of a lowering at a DOWN report (R41). -/
def endLowering (c : Chan) (s : State) : State :=
  let next := afterLowering s.channels[c]
  s.modChan c (restRecord next (if next = .cooldown then some (.cooldown, s.settings.cooldown) else none))

/-- The lower window expires (R42): LOWER-TIMEOUT and LOCKED; the counter is kept. -/
def lowerTimeout (c : Chan) (s : State) : State :=
  let s := s.modChan c fun r => { r with state := .locked, phase := none, lowerRep := none, lastFault := .lowerTimeout }
  faultNotice c .lowerTimeout .locked none s.channels[c].counter s.channels[c].limit s

/-- A raise is complete: the channel is UP (R32). -/
def raiseComplete (c : Chan) (s : State) : State :=
  scrapeOnChannel c .raising .up (s.modChan c fun r => { r with state := .up, phase := none })

/-! ## Scrape runs (4.5) -/

/-- A run starts (R99). -/
def startRun (c : Chan) (origin : Origin) (s : State) : State :=
  let s := s.modScrape fun r => { r with run := .raising, chan := some c, origin := origin }
  let s := raiseRequest c .scrape s
  forceStrip ((assignOf s c).bind PosAssign.strip) s

/-- No run has ended since the last reset, or the auto-scrape spacing has passed since the last end (R98). -/
def spacingPassed (s : State) : Bool :=
  match s.scrape.lastEnd with
  | none => true
  | some t => t + s.settings.autoScrapeSpacing * 1000 ≤ s.now

/-- The channel an auto-scrape request would raise, where every condition of R98 holds. -/
def autoScrapeChan? (s : State) : Option Chan :=
  if s.settings.autoScrape ∧ s.scrape.run = .noRun ∧ s.co.state = .powered ∧ s.iceSeason ∧ spacingPassed s then
    s.co.active.bind (scrapeSelect s)
  else none

/-- An auto-scrape request (R35, R98). -/
def autoScrape (s : State) : State :=
  match autoScrapeChan? s with
  | none => s
  | some c => startRun c .auto s

end Sys2Proof.Machine
end

