-- ==== Sys2Proof/Machine/Power.lean ====
section
/-! DEFINITION. The Power Path Controller (03): changes of the changeover state, the entries to its states, and its reactions to the
recognised result, the collector, the breaker, the switch and the silence of its nodes. -/

namespace Sys2Proof.Machine

/-! ## A change of the changeover state (R52) -/

/-- The record's own part of a change: the trip quiet timer stops on leaving POWERED (R66), neutral-announced clears on leaving
NEUTRAL (R76). -/
def changeRecord (st : CoState) (r : Changeover) : Changeover :=
  { r with state := st,
           tripQuiet := if r.state = .powered ∧ st ≠ .powered then none else r.tripQuiet,
           neutralAnnounced := if r.state = .neutral ∧ st ≠ .neutral then false else r.neutralAnnounced }

/-- A run in progress ends when the controller enters LOWERING, LOCKOUT or IDLE (R101). -/
def endsRun (st : CoState) : Bool := st = .lowering ∨ st = .lockout ∨ st = .idle

/-- A change of the changeover state, handed to the Heater Scheduler at the moment of the change (R52, R88, R101): the gate first, then
the end of a run (log 46). -/
def setCo (st : CoState) (s : State) : State :=
  let was := gateOpen s
  let s := gateChange was (s.modCo (changeRecord st))
  if endsRun st then endRun .changeover s else s

/-- The phase timer is started. -/
def startPhase (k : CoTimer) (ms : Nat) (s : State) : State := s.modCo fun r => { r with phase := some (k, ms) }

/-- The phase timer is stopped. -/
def stopPhase (s : State) : State := s.modCo fun r => { r with phase := none }

/-! ## The breaker's frames -/

/-- The open repetition turns on: OPEN at once and again every 100 ms (R51, R78). -/
def openRepOn (s : State) : State :=
  placeABreaker .opn (s.modCo fun r => { r with openRep := some Config.openRepeatMs })

/-- Breaker sustain turns off and an unsent SUSTAIN is removed (R133, R134). -/
def breakerSustainOff (s : State) : State :=
  let s := s.modCo fun r => { r with sustain := none }
  match nodeOf? s .breaker with
  | none => s
  | some n => removeSustain n s

/-- The CLOSE has departed: close progress TRANSMITTED, breaker sustain on with SUSTAIN placed at once (R62, R133). -/
def closeDeparted (s : State) : State :=
  placeABreaker .sustain (s.modCo fun r => { r with close := .transmitted, sustain := some Config.sustainMs })

/-! ## IDLE, COASTING, LOWERING (3.7) -/

/-- The record on entry to IDLE (R74). -/
def idleRecord (r : Changeover) : Changeover :=
  { r with active := none, ordered := none, collector := none, plan := .noPlan, phase := none, tripQuiet := none, trips := 0,
           neutralAnnounced := false, recloseGranted := false, substituteUsed := false, graded := false }

/-- The Heater Scheduler's lower request for the scrape channel of a run that the controller's entry ended, where it is taken before
the controller's own: R101 leaves open which comes first (log 7). `was` is the state before the entry. -/
def schedulerLowers (was s : State) : State :=
  match was.scrape.chan with
  | none => s
  | some c => if was.scrape.run ≠ .noRun ∧ Config.schedulerFirst was.serial then lowerRequest c .scrapeEnd s else s

/-- Entry to IDLE (R74). -/
def enterIdle (s : State) : State := lowerAll .changeover (schedulerLowers s ((setCo .idle s).modCo idleRecord))

/-- The record on entry to COASTING (R71). -/
def coastingRecord (r : Changeover) : Changeover :=
  { r with active := none, collector := none, recloseGranted := false, neutralAnnounced := false, graded := false }

/-- Entry to COASTING (R71). -/
def enterCoasting (s : State) : State := lowerAll .changeover ((setCo .coasting s).modCo coastingRecord)

/-- The end of the lowering phase: the plan's state is entered (R72). -/
def finishLowering (s : State) : State := if s.co.plan = .coasting then enterCoasting s else enterIdle s

/-- The collector's channel is in RAISING, UP or LOWERING (R72). -/
def collectorMoving (s : State) : Bool :=
  match s.co.collector with
  | none => false
  | some c => moving s c

/-- A lower request for the collector, if there is one. -/
def lowerCollector (cause : LowerCause) (s : State) : State :=
  match s.co.collector with
  | none => s
  | some c => lowerRequest c cause s

/-- A lower request for the channel with duty SCRAPE, if there is one (R72). -/
def lowerScraper (s : State) : State :=
  match (List.finRange 4).find? fun c => s.channels[c].duty = .scrape with
  | none => s
  | some c => lowerRequest c .changeover s

/-- Entry to LOWERING with a plan (R72). -/
def enterCoLowering (plan : Plan) (s : State) : State :=
  let s := schedulerLowers s ((setCo .lowering s).modCo fun r => { r with plan := plan, phase := none })
  let s := lowerScraper (lowerCollector (if s.co.graded then .graded else .changeover) s)
  if collectorMoving s then s else finishLowering s

/-! ## LOCKOUT (3.9) -/

/-- The record on entry to LOCKOUT: steps 1 to 3 of R78. -/
def lockoutRecord (cause : LockoutCause) (r : Changeover) : Changeover :=
  { r with lockoutCause := cause, phase := none, tripQuiet := none, plan := .noPlan,
           close := if r.close = .queued then .notPlaced else r.close }

/-- Entry to LOCKOUT; in LOCKOUT already, the state and the first cause are kept (R78, R177). -/
def enterLockout (cause : LockoutCause) (s : State) : State :=
  if s.co.state = .lockout then s
  else
    let left := s.co.state
    let t := breakerSustainOff (if s.co.close = .queued then withdrawClose s else s)
    let t := openRepOn (t.modCo (lockoutRecord cause))
    let t := lowerAll .safe (schedulerLowers s (setCo .lockout t))
    queueNotice (.lockout cause left t.co.active t.co.collector) t

/-! ## OPENING (3.5) -/

/-- Entry to OPENING with a plan (R67). -/
def enterOpening (plan : Plan) (s : State) : State :=
  let s := (setCo .opening s).modCo fun r => { r with plan := plan }
  let s := placeABreaker .opn (breakerSustainOff s)
  startPhase .openWindow s.settings.openWindow s

/-! ## SWITCHING, CLOSING, NEUTRAL (3.4, 3.6) -/

/-- The switch position of the active system's entry (R60). -/
def activeSwitch? (s : State) : Option Nat := (activeEntry? s).map SysEntry.switchPos

/-- The last switch report equals the active system's switch position (R60, R62). -/
def switchStands (s : State) : Bool :=
  match activeSwitch? s, s.co.lastSwitch with
  | some p, some q => p = q
  | _, _ => false

/-- SWITCHING waits: SWITCH in class B and the switch window (R60). -/
def awaitSwitch (s : State) : State :=
  let k := s.serial
  let s := match activeSwitch? s with
    | none => s
    | some p => (placeForRole .changeoverSwitch (.switch p) s).modCo fun r => { r with switchSerial := some k }
  startPhase .switchWindow s.settings.switchWindow s

/-- Admission to CLOSING (R62). -/
def admitClose (s : State) : State :=
  let k := s.serial
  let s := (placeForRole .breaker .close s).modCo fun r =>
    { r with close := .queued, closeSerial := some k, openRep := none }
  startPhase .closeWindow s.settings.closeWindow s

/-- An ordered system is pending (R50). -/
def orderedPending (s : State) : Bool := s.co.ordered.isSome && s.co.ordered ≠ s.co.active

/-- What the evaluation of R69 decides. -/
inductive NeutralVerdict where
  | wait | close | change (k : SysId) | coast
  deriving DecidableEq, Repr

/-- The collector's class lies in system k's class mask (R59, R69). -/
def collectorFits (s : State) (k : SysId) : Bool :=
  match s.co.collector with
  | none => false
  | some c => fitsSystem s k c

/-- The evaluation of a recognised system id k in NEUTRAL (R69). -/
def neutralVerdict (s : State) (k : SysId) : NeutralVerdict :=
  if s.co.active = some k then
    if orderedPending s then .wait
    else if s.co.neutralAnnounced then .wait
    else if s.settings.autoReclose ∨ s.co.recloseGranted then .close
    else .wait
  else if s.co.ordered = some k then (if collectorFits s k then .change k else .coast)
  else .wait

/-- Every raised channel but the collector whose class is not in k's mask is lowered with cause CHANGEOVER (R59, R69). -/
def lowerMisfits (k : SysId) (s : State) : State :=
  (List.finRange 4).foldl
    (fun s c => if s.co.collector ≠ some c ∧ ¬ fitsSystem s k c then lowerRequest c .changeover s else s) s

/-- A changeover to k (R69). -/
def changeoverTo (k : SysId) (s : State) : State :=
  (lowerMisfits k s).modCo fun r => { r with phase := none, active := some k }

/-- What NEUTRAL entry does before its evaluation (R68). -/
def neutralEntry (s : State) : State :=
  let s := (setCo .neutral s).modCo fun r =>
    { r with close := if r.lastBreaker = some .opened then .notPlaced else r.close, recloseGranted := false }
  startPhase .neutralDeadline s.settings.neutralDeadline s

/-- The states that pass on to one another without waiting (R52). -/
inductive Entry where
  | switching | closing | neutral
  deriving DecidableEq, Repr

/-- The verdict on the recognised result as it stands; a result that is no system id makes NEUTRAL wait (R68). -/
def verdictNow (s : State) : NeutralVerdict :=
  match s.recog.result with
  | .system k => neutralVerdict s k
  | _ => .wait

/-- Entry to SWITCHING, CLOSING or NEUTRAL, following the passages of R60, R62 and R69. No chain has more than five entries
(`enterPath_stable` in Laws/Path.lean), so that fuel 5 reaches its end from every state. -/
def enterPath : Nat → Entry → State → State
  | 0, _, s => s
  | n + 1, .switching, s =>
    let s := (setCo .switching s).modCo fun r => { r with switchSerial := none }
    if switchStands s then enterPath n .closing s else awaitSwitch s
  | n + 1, .closing, s =>
    let s := setCo .closing s
    if resultIsActive s then (if switchStands s then admitClose s else enterPath n .switching s)
    else enterPath n .neutral s
  | n + 1, .neutral, s =>
    let s := neutralEntry s
    match verdictNow s with
    | .wait => s
    | .close => enterPath n .closing s
    | .change k => enterPath n .switching (changeoverTo k s)
    | .coast => enterCoLowering .coasting s

/-- Entry to SWITCHING (R60). -/
def enterSwitching (s : State) : State := enterPath 5 .switching s
/-- Entry to CLOSING (R62). -/
def enterClosing (s : State) : State := enterPath 5 .closing s
/-- Entry to NEUTRAL (R68). -/
def enterNeutral (s : State) : State := enterPath 5 .neutral s

/-- The evaluation of R69 in NEUTRAL, of the recognised result as it stands. -/
def evaluateNeutral (s : State) : State :=
  match verdictNow s with
  | .wait => s
  | .close => enterClosing s
  | .change k => enterSwitching (changeoverTo k s)
  | .coast => enterCoLowering .coasting s

/-! ## Start, RECOGNIZING, substitute collectors (3.2 to 3.4) -/

/-- The actions of a start for k with channel c: steps 1 to 5 of R56. -/
def startWith (k : SysId) (c : Chan) (s : State) : State :=
  let s := s.modCo fun r =>
    { r with ordered := some k, active := some k, collector := some c, substituteUsed := false }
  setCo .raising (raiseRequest c .collect s)

/-- The evaluation of a system id r in RECOGNIZING (R59). -/
def evaluateRecognizing (r : SysId) (s : State) : State :=
  if s.co.active = some r then enterSwitching s
  else if (sysEntry? s r).isSome ∧ collectorFits s r ∧ s.settings.acceptCompatible then
    let s := queueNotice (.systemSubstituted s.co.ordered r) (lowerMisfits r s)
    enterSwitching (s.modCo fun c => { c with active := some r, ordered := some r })
  else
    let n := NoticeData.systemMismatch s.co.active r s.co.collector
    queueNotice n (enterCoLowering .idle s)

/-- Entry to RECOGNIZING (R59). -/
def enterRecognizing (s : State) : State :=
  let s := setCo .recognizing s
  let s := startPhase .recognitionDeadline s.settings.recognitionDeadline s
  match s.recog.result with
  | .system r => evaluateRecognizing r s
  | _ => s

/-- IDLE with a NO-COLLECTOR notice (R58, R81). -/
def noSubstitute (s : State) : State :=
  let n := NoticeData.noCollector s.co.active s.co.state s.co.collector
  queueNotice n (enterIdle s)

/-- A substitute raise (R58). -/
def substituteRaise (s : State) : State :=
  if s.co.substituteUsed then noSubstitute s
  else
    let s := s.modCo fun r => { r with substituteUsed := true, phase := none }
    match s.co.active.bind (collectSelect s) with
    | some c => setCo .raising (raiseRequest c .collect (s.modCo fun r => { r with collector := some c }))
    | none => noSubstitute s

/-- The queued CLOSE is withdrawn and close progress becomes NONE (R58, R64, R73, R77). -/
def dropQueuedClose (s : State) : State := (withdrawClose s).modCo fun r => { r with close := .notPlaced }

/-- The reaction to a collector loss by state (R58). -/
def collectorLost (s : State) : State :=
  match s.co.state with
  | .raising | .recognizing | .switching | .neutral => substituteRaise s
  | .closing => if s.co.close = .transmitted then enterOpening .substitute s else substituteRaise (dropQueuedClose s)
  | .powered => enterOpening .substitute s
  | .opening => if s.co.plan = .neutral then s.modCo fun r => { r with plan := .substitute } else s
  | .idle | .lowering | .coasting | .lockout => s

/-- A channel has left RAISING or UP (R45, R58). -/
def leftRaised (old new : ChanState) : Bool := (old = .raising ∨ old = .up) ∧ ¬ (new = .raising ∨ new = .up)

/-- The controller's reaction to a change of a channel's state that it did not request itself (R45, R57, R58, R72). -/
def coOnChannel (c : Chan) (old new : ChanState) (s : State) : State :=
  if s.co.collector ≠ some c then s
  else if s.co.state = .lowering then
    (if new = .raising ∨ new = .up ∨ new = .lowering then s else finishLowering s)
  else if leftRaised old new then collectorLost s
  else if s.co.state = .raising ∧ old = .raising ∧ new = .up then enterRecognizing s
  else s

/-! ## Reactions to the recognised result (R21; 9.4) -/

/-- The controller's reaction to a change of the recognised result (R59, R60, R64, R65, R68, R69). -/
def coOnResult (s : State) : State :=
  match s.co.state with
  | .recognizing =>
    match s.recog.result with
    | .system r => evaluateRecognizing r s
    | _ => s
  | .switching =>
    if resultIsActive s then s
    else
      let n := NoticeData.recognitionLost s.co.active s.recog.result
      queueNotice n (enterCoLowering .idle (stopPhase s))
  | .closing =>
    if resultIsActive s then s
    else if s.co.close = .transmitted then enterOpening .neutral s
    else enterNeutral (stopPhase (dropQueuedClose s))
  | .powered => if resultIsActive s then s else enterOpening .neutral s
  | .neutral =>
    evaluateNeutral (if resultIsActive s then s else s.modCo fun r => { r with neutralAnnounced := false })
  | .idle | .raising | .opening | .lowering | .coasting | .lockout => s

/-! ## Breaker and switch (R51, R61, R63, R66, R67) -/

/-- The record and the notice of a trip (R66, R174). -/
def countTrip (kind : TripKind) (s : State) : State :=
  let s := (breakerSustainOff s).modCo fun r =>
    { r with close := .notPlaced, tripQuiet := none, trips := min 2 (r.trips + 1) }
  queueNotice (.trip s.co.trips s.co.active kind) s

/-- What follows a trip (R66). -/
def afterTrip (s : State) : State := if s.co.trips = 1 then enterNeutral s else enterLockout .tripRepeat s

/-- Entry to POWERED (R65). -/
def enterPowered (s : State) : State :=
  setCo .powered (s.modCo fun r =>
    { r with phase := none, substituteUsed := false, neutralAnnounced := false,
             tripQuiet := if r.trips = 1 then some Config.tripQuietMs else none })

/-- The plan of OPENING is carried out at the first OPEN report (R67). -/
def carryOutPlan (s : State) : State :=
  let s := s.modCo fun r => { r with phase := none, close := .notPlaced }
  match s.co.plan with
  | .neutral => enterNeutral s
  | .substitute => substituteRaise s
  | .coasting => enterCoLowering .coasting s
  | .idle | .noPlan => enterCoLowering .idle s

/-- What every BREAKER-STATE report does first: last report, open repetition, close progress (R50, R51). -/
def breakerRecord (p : BreakerPos) (r : Changeover) : Changeover :=
  { r with lastBreaker := some p,
           openRep := if p = .opened then none else r.openRep,
           close := if p = .opened ∧ r.state ≠ .closing ∧ r.close = .transmitted then .notPlaced else r.close }

/-- The states in which the breaker is meant to be open (R51). -/
def meantOpen (st : CoState) : Bool :=
  st = .idle ∨ st = .raising ∨ st = .recognizing ∨ st = .switching ∨ st = .neutral ∨ st = .lowering ∨ st = .coasting

/-- A CLOSED report turns the open repetition on: in the states of R51, and in OPENING while a safe lowering or a POWER-DOWN takes the
path down, which is OPENING with plan IDLE (R73, R173; log 51). -/
def turnsOpenRepOn (r : Changeover) : Bool := meantOpen r.state || (r.state = .opening && r.plan = .idle)

/-- A BREAKER-STATE report (R51, R63, R66, R67, R173). -/
def breakerReport (p : BreakerPos) (s : State) : State :=
  let s := s.modCo (breakerRecord p)
  match p with
  | .opened =>
    if s.co.state = .powered then afterTrip (countTrip .report s)
    else if s.co.state = .opening then carryOutPlan s
    else s
  | .closed =>
    if turnsOpenRepOn s.co then openRepOn s
    else if s.co.state = .closing ∧ s.co.close = .transmitted then enterPowered s
    else s
  | .travel => s

/-- A SWITCH-STATE report while SWITCHING (R60). -/
def switchWhileSwitching (shows : Bool) (s : State) : State :=
  match s.co.phase with
  | some (.switchWindow, _) =>
    if shows then
      let s := s.modCo fun r => { r with switchSerial := none }
      if s.settings.settleInterval = 0 then enterClosing s
      else startPhase .settleInterval s.settings.settleInterval s
    else s
  | some (.settleInterval, _) => if shows then s else startPhase .switchWindow s.settings.switchWindow s
  | _ => s

/-- A SWITCH-STATE report (R51, R60, R61). -/
def switchReport (p : Nat) (s : State) : State :=
  let s := s.modCo fun r => { r with lastSwitch := some p }
  match s.co.state with
  | .switching => switchWhileSwitching (switchStands s) s
  | .closing | .powered => if switchStands s then s else enterLockout .switchFail s
  | .idle | .raising | .recognizing | .opening | .neutral | .lowering | .coasting | .lockout => s

/-! ## Breaker and switch nodes lost or wrong (R113, R174, R175) -/

/-- The breaker node enters SILENT (R174). -/
def breakerSilent (s : State) : State :=
  let s := s.modCo fun r => { r with lastBreaker := none }
  if s.co.state = .powered then afterTrip (openRepOn (countTrip .silent s)) else s

/-- The changeover switch node enters SILENT (R175). -/
def switchSilent (s : State) : State := s.modCo fun r => { r with lastSwitch := none }

/-- The breaker or switch node enters MISMATCH (R113). -/
def coNodeMismatch (s : State) : State := if s.co.state = .idle then s else enterLockout .nodeMismatch s

/-! ## POWER-DOWN and the safe lowering (R73, R170) -/

/-- The path of the POWER-DOWN table (R73, R170). -/
def powerDown (s : State) : State :=
  if s.co.state = .lockout then s
  else
    let s := s.modCo fun r => { r with ordered := none }
    match s.co.state with
    | .raising | .recognizing | .switching | .neutral => enterCoLowering .idle (stopPhase s)
    | .closing => if s.co.close = .transmitted then enterOpening .idle s else enterCoLowering .idle (dropQueuedClose s)
    | .powered => enterOpening .idle s
    | .opening | .lowering => s.modCo fun r => { r with plan := .idle }
    | .coasting => enterIdle s
    | .idle | .lockout => s

/-! ## Graded lowering of the collector (R77) -/

/-- The controller takes the collector of a graded lowering order (R77). -/
def gradedCollector (s : State) : State :=
  let s := s.modCo fun r => { r with graded := true }
  match s.co.state with
  | .powered => enterOpening .coasting s
  | .closing => if s.co.close = .transmitted then enterOpening .coasting s else enterCoLowering .coasting (dropQueuedClose s)
  | .opening => if s.co.plan = .idle then s else s.modCo fun r => { r with plan := .coasting }
  | .raising | .recognizing | .switching | .neutral => enterCoLowering .coasting (stopPhase s)
  | .idle | .lowering | .coasting | .lockout => s

/-! ## Outcomes of CLOSE and SWITCH (R61, R63) -/

/-- The outcome of a SWITCH (R61). -/
def switchOutcome (serial : Nat) (o : CmdOutcome) (s : State) : State :=
  if o ≠ .accepted ∧ s.co.state = .switching ∧ s.co.switchSerial = some serial then enterLockout .switchFail s else s

/-- The outcome of a CLOSE (R63). -/
def closeOutcome (serial : Nat) (o : CmdOutcome) (s : State) : State :=
  if o ≠ .accepted ∧ s.co.state = .closing ∧ s.co.closeSerial = some serial then enterLockout .breakerCloseFail s else s

end Sys2Proof.Machine
end

