-- ==== Sys2Proof/Machine/Contacts.lean ====
section
/-! DEFINITION. What reaches a pantograph channel from outside: CONTACT reports, expiries, and outcomes of RAISE (02, section 2.3), each
with the hand-on to the Power Path Controller (R45). -/

namespace Sys2Proof.Machine

/-- A channel of RAISING or UP records a fault, enters LOWERING and is handed on (R40, R45). -/
def chanFault (c : Chan) (f : ChanFault) (s : State) : State :=
  let old := s.channels[c].state
  coOnChannel c old .lowering (faultLowering c f s)

/-- A lower request that the Power Path Controller did not make (R40, R45, R58). -/
def lowerByOther (c : Chan) (cause : LowerCause) (s : State) : State :=
  if raised s c then
    let old := s.channels[c].state
    coOnChannel c old .lowering (enterLowering c cause s)
  else s

/-- The counter after a report (R34). -/
def counterAfter (r : Channel) (contact : Bool) (arc : Nat) : Nat :=
  if 1 ≤ arc then min r.limit (r.counter + 16 * arc)
  else if contact then r.counter - 1
  else min r.limit (r.counter + 16)

/-- The report increases the counter (R34). -/
def counterRises (contact : Bool) (arc : Nat) : Bool := 1 ≤ arc || ! contact

/-- The counter goes from below half the limit to half the limit or above (R35). -/
def crossesHalf (before after limit : Nat) : Bool := 2 * before < limit && limit ≤ 2 * after

/-- ARC-WATCH, and an auto-scrape request for a collector in the ice season (R35). -/
def arcWatch (c : Chan) (contact : Bool) (arc : Nat) (s : State) : State :=
  let r := s.channels[c]
  let s := queueNotice (.arcWatch c r.counter r.limit r.duty arc contact) s
  if r.duty = .collect ∧ s.iceSeason then autoScrape s else s

/-- A report of position UP or TRAVEL without ADD, taken while the channel is UP (R34, R35). -/
def superviseContact (c : Chan) (contact : Bool) (arc : Nat) (s : State) : State :=
  let r := s.channels[c]
  let n := counterAfter r contact arc
  let s := s.modChan c fun r => { r with counter := n }
  if counterRises contact arc then
    let s := if crossesHalf r.counter n r.limit then arcWatch c contact arc s else s
    if r.limit ≤ n then chanFault c .contactLoss s else s
  else s

/-- The end of a lowering, handed on (R41, R45). -/
def loweringEnds (c : Chan) (s : State) : State :=
  let next := afterLowering s.channels[c]
  coOnChannel c .lowering next (endLowering c s)

/-- A report with the ADD flag (R37). Where no state is entered, the notice carries the state the channel stands in, with cause FAULT
in LOWERING (log 43). -/
def addReport (c : Chan) (pos : PanPos) (s : State) : State :=
  match s.channels[c].state with
  | .raising | .up =>
    if pos = .down then
      let old := s.channels[c].state
      coOnChannel c old .locked (lockOnAdd c s)
    else chanFault c .add s
  | .lowering =>
    let s := s.modChan c fun r => { r with cause := some .fault, lastFault := .add }
    let s := faultNotice c .add .lowering (some .fault) s.channels[c].counter s.channels[c].limit s
    if pos = .down then loweringEnds c s else s
  | .down | .cooldown => addLocks c s
  | .locked =>
    let s := s.modChan c fun r => { r with lastFault := .add }
    faultNotice c .add .locked none s.channels[c].counter s.channels[c].limit s

/-- A report without the ADD flag (R32, R34, R38, R41). -/
def plainReport (c : Chan) (pos : PanPos) (contact : Bool) (arc : Nat) (s : State) : State :=
  match s.channels[c].state with
  | .raising => if pos = .up ∧ contact then coOnChannel c .raising .up (raiseComplete c s) else s
  | .up =>
    if pos = .down then coOnChannel c .up .cooldown (dropToCooldown c s)
    else superviseContact c contact arc s
  | .lowering => if pos = .down then loweringEnds c s else s
  | .down | .cooldown | .locked => s

/-- A CONTACT report taken for position p (R25). -/
def contactReport (p : Pos) (pos : PanPos) (contact add : Bool) (arc : Nat) (s : State) : State :=
  let s := s.modPos p fun r => { r with lastPos := some pos }
  match chanAt? s p with
  | none => s
  | some c => if add then addReport c pos s else plainReport c pos contact arc s

/-- The lower window expires in LOWERING (R42, R172): the CHANNEL-FAULT notice is queued before the LOCKOUT notice (log 53). -/
def lowerWindowExpired (c : Chan) (s : State) : State := enterLockout .lowerFail (lowerTimeout c s)

/-- The outcome of a RAISE (R33). An outcome taken in UP acts for the raise that this RAISE began; one taken in RAISING acts (log 9). -/
def raiseOutcome (c : Chan) (serial : Nat) (o : CmdOutcome) (s : State) : State :=
  if o ≠ .accepted ∧
      (s.channels[c].state = .raising ∨ (s.channels[c].state = .up ∧ s.channels[c].raiseSerial = some serial)) then
    chanFault c .commandFailed s
  else s

/-- A presence change of a pantograph unit (R39). -/
def pantographPresence (n : Node) (s : State) : State :=
  match chanOfNode? s n with
  | none => s
  | some c =>
    if raised s c then
      match s.nodes[n].presence with
      | .silent => chanFault c .nodeSilent s
      | .mismatch => chanFault c .nodeMismatch s
      | .absent | .present => s
    else s

end Sys2Proof.Machine
end

