-- ==== Sys2Proof/Machine/Roster.lean ====
section
/-! DEFINITION. The Node Roster (05): presence changes and their hand-on, ANNOUNCE, silence, the outcomes of commands, and the
delivery of roof frames with their mirroring (07, section 7.5). -/

namespace Sys2Proof.Machine

/-! ## Outcomes (5.5) -/

/-- A part-originated command's outcome goes to the block that owns its code (R118). -/
def deliverPart (c : BCmd) (serial : Nat) (o : CmdOutcome) (s : State) : State :=
  match c with
  | .raise ch => raiseOutcome ch serial o s
  | .close => closeOutcome serial o s
  | .switch _ => switchOutcome serial o s
  | .heatOn z =>
    if s.zones[z].state = .heating ∧ s.zones[z].heatOnSerial = some serial then
      match o with
      | .accepted => s
      | .rejected => contactorFailure z .rejected s
      | .failed => contactorFailure z .noAck s
    else s
  | .heatOff z =>
    if o = .accepted then s
    else queueNotice (.zoneFault z .offFailed s.zones[z].accum s.zones[z].owedPasses) s
  | .announceRequest => s

/-! ## Presence (5.3) -/

/-- A change of presence is handed to the owner of the node's role (R113). -/
def presenceHandOn (n : Node) (s : State) : State :=
  match s.nodes[n].role with
  | .pantographUnit => pantographPresence n s
  | .heaterContactor => contactorPresence n s
  | .breaker =>
    match s.nodes[n].presence with
    | .mismatch => coNodeMismatch s
    | .silent => breakerSilent s
    | .absent | .present => s
  | .changeoverSwitch =>
    match s.nodes[n].presence with
    | .mismatch => coNodeMismatch s
    | .silent => switchSilent s
    | .absent | .present => s
  | .noRole | .lineSensor | .auxiliary => s

/-- A node's presence is set and the change handed on (R113). -/
def setPresence (n : Node) (p : Presence) (s : State) : State :=
  presenceHandOn n (s.modNode n fun r => { r with presence := p })

/-- The entries queued for a MISMATCH node are removed, class B before class C: each class B entry's owner takes COMMAND-FAILED, then each
class C entry is answered MISMATCH (R112 step 2, R128). When the first class C entry leaves, the bypass count clears (R130). -/
def removeForMismatch (n : Node) (s : State) : State :=
  let goneB := s.roof.classB.filter fun e => e.node = n
  let goneC := s.roof.classC.filter fun e => e.node = n
  let headGone := match s.roof.classC with | [] => false | e :: _ => e.node = n
  let s := s.modRoof fun r =>
    { r with classB := r.classB.filter fun e => e.node ≠ n,
             classC := r.classC.filter fun e => e.node ≠ n,
             bypass := if headGone then 0 else r.bypass }
  let s := goneB.foldl (fun s e => deliverPart e.cmd e.serial .failed s) s
  goneC.foldl (fun s e => addResponse { seq := e.trainSeq, code := e.code, result := .mismatch, data := [] } s) s

/-- The class by which a node is judged, where a position names it (R110). -/
def judgingClass? (s : State) (n : Node) : Option Cls :=
  (posNaming? s n).bind fun p => s.positions[p].assigned.map PosAssign.cls

/-- A declared class word lies in 0 to 4; one outside is a declaration that does not match, whatever the role (R181; log 41). -/
def classInRange : Option Word → Bool
  | none => true
  | some w => w.toNat ≤ 4

/-- The test of R110 on a node's declared values. -/
def declarationMatches (s : State) (n : Node) : Bool :=
  let r := s.nodes[n]
  match r.declRole with
  | none => false
  | some w =>
    role? w = some r.role && classInRange r.declClass &&
      (if r.role = .pantographUnit then
        match judgingClass? s n with
        | none => true
        | some c => r.declClass.map BitVec.toNat = some (number c)
       else true)

/-- Entry to MISMATCH: hand-on and removal (R112), and before them the NODE-MISMATCH notice (R110; log 52). -/
def enterMismatch (n : Node) (s : State) : State :=
  let r := s.nodes[n]
  let s := queueNotice (.nodeMismatch n r.role r.declRole r.declClass (judgingClass? s n)) s
  removeForMismatch n (setPresence n .mismatch s)

/-- A node becomes PRESENT with report age 0 (R110). -/
def becomePresent (n : Node) (s : State) : State :=
  setPresence n .present (s.modNode n fun r => { r with age := 0, ageRuns := true })

/-- The outcome of the test of R110 on the node's presence; `fresh` when an ANNOUNCE made the test, which also makes an ABSENT node
PRESENT. -/
def judge (n : Node) (fresh : Bool) (s : State) : State :=
  if declarationMatches s n then
    match s.nodes[n].presence with
    | .mismatch => becomePresent n s
    | .absent => if fresh then becomePresent n s else s
    | .present | .silent => s
  else if s.nodes[n].presence = .mismatch then s
  else enterMismatch n s

/-- An ANNOUNCE from a configured node (R110). -/
def announceReport (n : Node) (role cls : Word) (s : State) : State :=
  judge n true (s.modNode n fun r => { r with declRole := some role, declClass := some cls })

/-- The roster re-judges a node after a POSITION load or clear; a node with no declared values stays as it is (R110). -/
def rejudge (n : Node) (s : State) : State :=
  if s.nodes[n].declRole.isSome ∧ s.nodes[n].role ≠ .noRole then judge n false s else s

/-- Silence supervision runs for the node (R111). -/
def supervised (r : NodeRec) : Bool := r.presence = .present ∧ 0 < r.period

/-- The report age passes the silence limit (R111). -/
def nodeSilenced (n : Node) (s : State) : State :=
  let r := s.nodes[n]
  if supervised r then setPresence n .silent (queueNotice (.nodeSilent n r.role r.period r.age) s) else s

/-! ## The outstanding slot (5.5) -/

/-- The result a forwarded command's outcome is answered with (R118). -/
def CmdOutcome.result : CmdOutcome → Result
  | .accepted => .accepted
  | .rejected => .rejected
  | .failed => .timeout

/-- An outcome is delivered to the originator of the command of a slot (R118). -/
def deliver (o : Outstanding) (out : CmdOutcome) (data : List Word) (s : State) : State :=
  match o.origin with
  | .part c k => deliverPart c k out s
  | .train q => addResponse { seq := q, code := o.code, result := out.result, data := data } s

/-- The node's outstanding slot empties (R117, R118). -/
def emptySlot (n : Node) (s : State) : State := s.modNode n fun r => { r with slot := none }

/-- An ACK from a node (R117). -/
def ackReport (n : Node) (seq : Byte) (payload : List Word) (s : State) : State :=
  match s.nodes[n].slot, ackResult? payload with
  | some o, some out => if o.seq = seq then deliver o out (payload.drop 1) (emptySlot n s) else s
  | _, _ => s

/-- The ACK deadline passes (R118). -/
def ackTimeout (n : Node) (s : State) : State :=
  match s.nodes[n].slot with
  | none => s
  | some o => deliver o .failed [] (emptySlot n s)

/-! ## Delivery and mirroring (R106, R141, R151, R152) -/

/-- A window covers a node address (R138). -/
def WindowEntry.covers (w : WindowEntry) (n : Node) : Bool := w.first ≤ n ∧ n ≤ w.last

/-- The window of a level that covers the node (R141). -/
def windowAt? (s : State) (level : Nat) (n : Node) : Option WindowEntry :=
  (s.fwd.windows.toList.filterMap id).find? fun w => w.level = level ∧ w.covers n

/-- The deciding window of a node: level 1, then 2, then 3 (R141). -/
def decidingWindow? (s : State) (n : Node) : Option WindowEntry :=
  match windowAt? s 1 n with
  | some w => some w
  | none =>
    match windowAt? s 2 n with
    | some w => some w
    | none => windowAt? s 3 n

/-- A copy is taken into the mirror buffer, or lost (R152). -/
def takeCopy (m : MirrorCopy) (s : State) : State :=
  if s.fwd.mirror.length < 8 then s.modFwd fun f => { f with mirror := f.mirror ++ [m] }
  else
    let s := s.modFwd fun f => { f with mirrorLoss := satSucc 65535 f.mirrorLoss }
    queueNotice (.mirrorOverflow m.src m.cls m.code s.fwd.mirrorLoss) s

/-- A REPORT or ACK that reached delivery is offered to the mirror (R151). -/
def offerMirror (m : MirrorCopy) (s : State) : State :=
  match decidingWindow? s m.src with
  | none => s
  | some w => if w.mirror then takeCopy m s else s

/-- The frames of R106: REPORT with what it holds, SAMPLE, ACK. -/
inductive RoofFrame where
  | report (code : Byte) (payload : List Word) (holds : Option Report)
  | sample (payload : List Word)
  | ack (code : Byte) (payload : List Word)
  deriving DecidableEq, Repr

/-- The frame's declared role and class, when it is an ANNOUNCE (R106). -/
def RoofFrame.announced? : RoofFrame → Option (Word × Word)
  | .report _ _ (some (.announce r c)) => some (r, c)
  | _ => none

/-- Step 3 of R106: the report age restarts, and a SILENT node becomes PRESENT. -/
def restartAge (n : Node) (s : State) : State :=
  let s := s.modNode n fun r => { r with age := 0, ageRuns := true }
  if s.nodes[n].presence = .silent then setPresence n .present s else s

/-- Delivery of a report to the block of its kind, which applies its own conditions (R106, R25, R51, R84). -/
def deliverReport (n : Node) (r : Report) (s : State) : State :=
  match r with
  | .announce role cls => announceReport n role cls s
  | .contact pos contact add arc =>
    match posNaming? s n with
    | none => s
    | some p => contactReport p pos contact add arc s
  | .breaker p => if s.nodes[n].role = .breaker then breakerReport p s else s
  | .switch p => if s.nodes[n].role = .changeoverSwitch then switchReport p s else s
  | .contactor p =>
    match zoneOfNode? s n with
    | none => s
    | some z => contactorReport z p s

end Sys2Proof.Machine
end

