-- ==== Sys2Proof/Machine/Recognition.lean ====
section
/-! DEFINITION. Line Measurement and Recognition (01): the sample stream, the window, classification and confirmation, with the hand-on
of each change of the recognised result to the Power Path Controller (R21). -/

namespace Sys2Proof.Machine

/-! ## The window (1.2) -/

/-- The crossing detector's step for a deviation d under hysteresis h: the new state and the crossings counted (R7). -/
def detect (h d : Int) (det : Detector) : Detector × Nat :=
  match det with
  | .unset => if h ≤ d then (.high, 0) else if d ≤ -h then (.low, 0) else (.unset, 0)
  | .high => if d ≤ -h then (.low, 1) else (.high, 0)
  | .low => if h ≤ d then (.high, 1) else (.low, 0)

/-- A sample code enters the window (R6, R7). -/
def addSample (r : Recog) (code : Int) : Recog :=
  let p := detect r.windowH (code - r.mPrev) r.detector
  { r with sumS := r.sumS + code, sumQ := r.sumQ + code.natAbs * code.natAbs, sampleCount := r.sampleCount + 1,
           detector := p.1, crossings := r.crossings + p.2 }

/-- The sums and counts of the window are cleared (R3, R4, R10). -/
def clearSums (r : Recog) : Recog := { r with sumS := 0, sumQ := 0, crossings := 0, sampleCount := 0 }

/-- The current window is discarded and the detector set to UNSET (R3, R4). -/
def discardWindow (r : Recog) : Recog := { clearSums r with detector := .unset }

/-- The mean code, truncated toward zero (R8). -/
def meanCode (sumS : Int) : Int := sumS.tdiv 960

/-- The variance code, clamped to 0 (R9). -/
def varianceCode (sumS : Int) (sumQ : Nat) : Nat := sumQ / 960 - (meanCode sumS).natAbs * (meanCode sumS).natAbs

/-- The root r with k more bits set where the square still does not exceed v, highest bit first. -/
def rootBits : Nat → Nat → Nat → Nat
  | 0, _, r => r
  | k + 1, v, r => if (r + 2 ^ k) * (r + 2 ^ k) ≤ v then rootBits k v (r + 2 ^ k) else rootBits k v r

/-- The alternating amplitude figure: twice the integer square root, at most 65,535 (R9). Sixteen bits of root are enough: a root of
65,536 or more and one of 65,535 both give 65,535 volts. -/
def amplitude (v : Nat) : Nat := min 65535 (2 * rootBits 16 v 0)

/-- The frequency figure (R10). -/
def frequency (c : Nat) : Nat := min 9999 (c * 125 / 6)

/-- Steps 1, 2 and 4 of R10: the figures, m_prev, and the cleared window. -/
def windowFigures (r : Recog) : Recog :=
  let m := meanCode r.sumS
  clearSums { r with lastD := 2 * m, lastA := amplitude (varianceCode r.sumS r.sumQ), lastF := frequency r.crossings,
                     lastC := r.crossings, windowCount := satSucc 65535 r.windowCount, mPrev := m }

/-! ## Classification (1.4) -/

/-- An entry matches the figures (R16). -/
def SysEntry.covers (e : SysEntry) (d : Int) (a f : Nat) : Bool :=
  e.dMin ≤ d ∧ d ≤ e.dMax ∧ e.aMin ≤ a ∧ a ≤ e.aMax ∧ e.fMin ≤ f ∧ f ≤ e.fMax

/-- The entries of one level that match (R16). -/
def matchesAt (s : State) (level : Nat) (d : Int) (a f : Nat) : List SysEntry :=
  (s.systems.toList.filterMap id).filter fun e => e.level = level ∧ e.covers d a f

/-- What the matches of a level decide: nothing, one system, or AMBIGUOUS (R16). -/
def levelResult : List SysEntry → Option LineResult
  | [] => none
  | [e] => some (.system e.id)
  | _ => some .ambiguous

/-- The window's result by the System Table, level by level (R16). -/
def tableResult (s : State) (d : Int) (a f : Nat) : LineResult :=
  match levelResult (matchesAt s 1 d a f) with
  | some r => r
  | none =>
    match levelResult (matchesAt s 2 d a f) with
    | some r => r
    | none => (levelResult (matchesAt s 3 d a f)).getD .unknown

/-- The window's result (R15, R16). -/
def classify (s : State) (d : Int) (a f : Nat) : LineResult :=
  if a < s.settings.deadAc ∧ d.natAbs < s.settings.deadDc then .dead else tableResult s d a f

/-! ## Confirmation (1.5) -/

/-- The recognised result changes: LINE-CHANGE, and the hand-on (R20, R21), in this order (log 42). -/
def changeResult (new : LineResult) (s : State) : State :=
  let r := s.recog
  let s := s.modRecog fun r => { r with result := new }
  coOnResult (queueNotice (.lineChange new r.result r.lastD r.lastA r.lastF r.lastC) s)

/-- The confirm count for a candidate (R19). A candidate that is a system id has just been matched, so its entry stands in the table. -/
def confirmCount (s : State) : LineResult → Nat
  | .system k => match sysEntry? s k with
    | some e => e.confirm
    | none => s.settings.confirm
  | _ => s.settings.confirm

/-- The candidate and the run count after a window result (R18). -/
def countRun (w : LineResult) (r : Recog) : Recog :=
  if r.candidate = w then { r with run := satSucc 15 r.run } else { r with candidate := w, run := 1 }

/-- A window result is handed to confirmation (R18, R19). -/
def confirmResult (w : LineResult) (s : State) : State :=
  let s := s.modRecog (countRun w)
  if confirmCount s w ≤ s.recog.run ∧ s.recog.result ≠ w then changeResult w s else s

/-- A window is complete (R10). -/
def completeWindow (s : State) : State :=
  let s := s.modRecog windowFigures
  confirmResult (classify s s.recog.lastD s.recog.lastA s.recog.lastF) s

/-! ## The stream (1.1) -/

/-- The hysteresis of a window is the setting at its first sample (R11). -/
def latchH (h : Nat) (r : Recog) : Recog := if r.sampleCount = 0 then { r with windowH := h } else r

/-- One sample word of a frame taken (R1, R11): it enters the window, and the 960th completes it. -/
def takeSample (s : State) (w : Word) : State :=
  let s := s.modRecog fun r => addSample (latchH s.settings.hysteresis r) w.toInt
  if 960 ≤ s.recog.sampleCount then completeWindow s else s

/-- A gap (R3). -/
def gap (r : Recog) : Recog := { discardWindow r with run := 0, gapCount := satSucc 255 r.gapCount }

/-- The stream's record at a frame taken, before its samples (R2, R3). -/
def streamRecord (seq : Byte) (r : Recog) : Recog :=
  let r := match r.stream with
    | .live => if r.lastSeq.map (· + 1) = some seq then r else gap r
    | .waiting | .stale => { discardWindow r with stream := .live }
  { r with lastSeq := some seq, sampleTimeout := some Config.sampleTimeoutMs }

/-- A frame taken is one arrival (R1, R2). -/
def sampleArrival (seq : Byte) (payload : List Word) (s : State) : State :=
  payload.foldl takeSample (s.modRecog (streamRecord seq))

/-- A SAMPLE frame delivered to the block, which takes it under the three conditions of R1. -/
def sampleDelivered (n : Node) (seq : Byte) (payload : List Word) (s : State) : State :=
  if s.nodes[n].role = .lineSensor ∧ s.nodes[n].presence ≠ .mismatch ∧ payload.length = 16 then sampleArrival seq payload s
  else s

/-- Entry to STALE (R4). -/
def staleRecord (r : Recog) : Recog :=
  { discardWindow r with lastSeq := none, run := 0, stream := .stale, sampleTimeout := none }

/-- The sample timeout expires (R4). -/
def sampleTimeoutExpired (s : State) : State :=
  if s.recog.stream = .live then
    let s := s.modRecog staleRecord
    if s.recog.result = .stale then s else changeResult .stale s
  else s

/-! ## The frames of R106 -/

/-- Delivery by class (R106 step 4). -/
def deliverFrame (n : Node) (seq : Byte) (f : RoofFrame) (s : State) : State :=
  match f with
  | .report _ _ holds => match holds with
    | some r => deliverReport n r s
    | none => s
  | .sample payload => sampleDelivered n seq payload s
  | .ack _ payload => ackReport n seq payload s

/-- The copy that a frame would give the mirror (R106 step 5, R151). -/
def RoofFrame.copy? (n : Node) (seq : Byte) : RoofFrame → Option MirrorCopy
  | .report code payload _ => some { src := n, cls := .report, seq := seq, code := code, payload := payload }
  | .sample _ => none
  | .ack code payload => some { src := n, cls := .ack, seq := seq, code := code, payload := payload }

/-- Mirroring (R106 step 5). -/
def mirrorFrame (n : Node) (seq : Byte) (f : RoofFrame) (s : State) : State :=
  match f.copy? n seq with
  | some m => offerMirror m s
  | none => s

/-- A frame of an unconfigured node: an ANNOUNCE is recorded (R106 step 1). -/
def unconfiguredFrame (n : Node) (f : RoofFrame) (s : State) : State :=
  match f.announced? with
  | some (role, cls) => s.modNode n fun r => { r with declRole := some role, declClass := some cls }
  | none => s

/-- A frame of a MISMATCH node: an ANNOUNCE is handled (R106 step 2). -/
def mismatchFrame (n : Node) (f : RoofFrame) (s : State) : State :=
  match f.announced? with
  | some (role, cls) => announceReport n role cls s
  | none => s

/-- A REPORT, SAMPLE or ACK frame from node n (R106). -/
def takeRoofFrame (n : Node) (seq : Byte) (f : RoofFrame) (s : State) : State :=
  if s.nodes[n].role = .noRole then unconfiguredFrame n f s
  else if s.nodes[n].presence = .mismatch then mismatchFrame n f s
  else mirrorFrame n seq f (deliverFrame n seq f (restartAge n s))

/-- A REPORT frame, read by its code and payload (R106, R181). -/
def takeReport (n : Node) (seq code : Byte) (payload : List Word) (s : State) : State :=
  takeRoofFrame n seq (.report code payload (report? code payload)) s

/-- A roof frame that fails its check (R105). -/
def roofCheckFailed (k : FrameFailure) (s : State) : State :=
  let s := { s with roofCheckFail := satSucc 65535 s.roofCheckFail }
  queueNotice (.linkCheckRoof k s.roofCheckFail) s

end Sys2Proof.Machine
end

