-- ==== Sys2Proof/Machine/Values.lean ====
section
/-! DEFINITION. Values as words (11.3 to 11.5, R183): encodings, table entries, notice data, the records of READ-STATUS. -/

namespace Sys2Proof.Machine

/-! ## Words -/

/-- A value of one word (R183); a value above 65,535 has no stated word (log 14). -/
def word (v : Nat) : Word := if v ≤ 65535 then BitVec.ofNat 16 v else Config.wordOver v

/-- A value of two words, high word first (R183); a value of 2^32 or more has no stated words (log 14). -/
def words2 (v : Nat) : List Word :=
  if v < 4294967296 then [BitVec.ofNat 16 (v / 65536), BitVec.ofNat 16 v] else [(Config.wideOver v).1, (Config.wideOver v).2]

/-- A signed value of two words, in two's complement, high word first (11.4). -/
def signed2 (v : Int) : List Word :=
  let b := BitVec.ofInt 32 v
  [b.extractLsb' 16 16, b.extractLsb' 0 16]

/-- A flag: 1 on, 0 off (R183). -/
def flag (b : Bool) : Word := if b then 1 else 0

/-- A numbered thing that may be absent (R183). -/
def num {n : Nat} (i : Option (Fin n)) : Word := word (numberOr0 i)

/-- A set of channels as a bit set, bit 0 for L1 (R183). -/
def chanSet (p : Chan → Bool) : Word :=
  ((List.finRange 4).map fun c => if p c then BitVec.ofNat 16 (2 ^ c.val) else 0).foldl (· ||| ·) 0

/-! ## Encodings (11.5) -/

def StreamState.code : StreamState → Word
  | .waiting => 0 | .live => 1 | .stale => 2

def LineResult.code : LineResult → Word
  | .noResult => 0 | .dead => 9 | .unknown => 10 | .ambiguous => 11 | .stale => 12
  | .system k => word (number k)

def PanPos.code : Option PanPos → Word
  | some .down => 0 | some .travel => 1 | some .up => 2 | none => 3

def ChanState.code : ChanState → Word
  | .down => 0 | .raising => 1 | .up => 2 | .lowering => 3 | .cooldown => 4 | .locked => 5

def Duty.code : Duty → Word
  | .noDuty => 0 | .collect => 1 | .scrape => 2

def ChanTimer.code : ChanTimer → Word
  | .raiseWindow => 1 | .lowerWindow => 2 | .cooldown => 3

def ChanFault.code : ChanFault → Word
  | .noFault => 0 | .raiseTimeout => 1 | .lowerTimeout => 2 | .contactLoss => 3 | .add => 4 | .unexpectedDrop => 5
  | .nodeSilent => 6 | .nodeMismatch => 7 | .commandFailed => 8 | .reset => 9

def LowerCause.code : Option LowerCause → Word
  | none => 0 | some .order => 1 | some .fault => 2 | some .graded => 3 | some .changeover => 4 | some .safe => 5
  | some .reset => 6 | some .scrapeEnd => 7

/-- The number of a changeover state (11.5). -/
def CoState.value : CoState → Nat
  | .idle => 0 | .raising => 1 | .recognizing => 2 | .switching => 3 | .closing => 4 | .powered => 5 | .opening => 6
  | .neutral => 7 | .lowering => 8 | .coasting => 9 | .lockout => 10

def CoState.code (c : CoState) : Word := word c.value

def Plan.code : Plan → Word
  | .noPlan => 0 | .neutral => 1 | .substitute => 2 | .idle => 3 | .coasting => 4

def CoTimer.code : CoTimer → Word
  | .recognitionDeadline => 1 | .switchWindow => 2 | .settleInterval => 3 | .closeWindow => 4 | .openWindow => 5
  | .neutralDeadline => 6

def CloseProgress.code : CloseProgress → Word
  | .notPlaced => 0 | .queued => 1 | .transmitted => 2

def LockoutCause.code : LockoutCause → Word
  | .noCause => 0 | .breakerOpenFail => 1 | .breakerCloseFail => 2 | .switchFail => 3 | .lowerFail => 4 | .tripRepeat => 5
  | .nodeMismatch => 6

def BreakerPos.code : Option BreakerPos → Word
  | some .opened => 0 | some .closed => 1 | some .travel => 2 | none => 3

/-- The last switch report: 0 to 4 as SWITCH-STATE, 5 NONE. -/
def switchCode : Option Nat → Word
  | some p => word p | none => 5

def ContactorPos.code : Option ContactorPos → Word
  | some .off => 0 | some .on => 1 | some .fault => 2 | none => 3

def ZoneState.code : ZoneState → Word
  | .idle => 0 | .waiting => 1 | .heating => 2 | .paused => 3

def ZoneFailure.code : ZoneFailure → Word
  | .fault => 0 | .rejected => 1 | .noAck => 2 | .silent => 3 | .mismatch => 4 | .offFailed => 5

def RunState.code : RunState → Word
  | .noRun => 0 | .raising => 1 | .scraping => 2

def Origin.code : Origin → Word
  | .order => 0 | .auto => 1

def EndReason.code : EndReason → Word
  | .duration => 0 | .channel => 1 | .changeover => 2 | .season => 3

def Role.code : Role → Word
  | .noRole => 0 | .pantographUnit => 1 | .breaker => 2 | .changeoverSwitch => 3 | .heaterContactor => 4 | .lineSensor => 5
  | .auxiliary => 6

def Presence.code : Presence → Word
  | .absent => 0 | .present => 1 | .silent => 2 | .mismatch => 3

def TakeState.code : TakeState → Word
  | .noTakeover => 0 | .pending => 1 | .granted => 2

def DownAction.code : DownAction → Word
  | .pass => 0 | .chk => 1 | .drop => 2

def ChanCond.code : ChanCond → Word
  | .any => 0 | .allDown => 1 | .noCollector => 2

def ZoneCond.code : ZoneCond → Word
  | .any => 0 | .noneHeating => 1

def failureCode : FrameFailure → Word
  | .check => 0 | .length => 1 | .unknownClass => 2

def TripKind.code : TripKind → Word
  | .report => 0 | .silent => 1

/-- The frame class of a mirrored frame (11.1). -/
def MirrorClass.code : MirrorClass → Word
  | .report => 3 | .ack => 2

def Result.code : Result → Word
  | .ok => 0 | .busy => 1 | .refusedState => 2 | .frozen => 3 | .badEntry => 4 | .overlap => 5 | .duplicate => 6 | .full => 7
  | .noRoute => 8 | .noRule => 9 | .interlock => 10 | .reservedCode => 11 | .held => 12 | .lockedOut => 13 | .mismatch => 14
  | .silent => 15 | .noCollector => 16 | .accepted => 17 | .rejected => 18 | .timeout => 19 | .unknownRequest => 20

/-- The roof command code of a class B command (11.2). -/
def BCmd.code : BCmd → Byte
  | .raise _ => 1 | .close => 3 | .switch _ => 5 | .heatOn _ => 6 | .heatOff _ => 7 | .announceRequest => 8

/-- The payload of a class B command (11.2). -/
def BCmd.payload : BCmd → List Word
  | .switch p => [word p]
  | _ => []

/-- The code of a class A frame (11.1, 11.2). -/
def AFrame.code : AFrame → Byte
  | .lower => 2 | .opn => 4 | .sustain => 0

/-- A code as a data word. -/
def byteWord (b : Byte) : Word := b.zeroExtend 16

/-! ## Instants and timers -/

/-- An instant as its age in seconds (R183); absent: log 15. -/
def ageWords (now : Nat) : Option Nat → List Word
  | some t => words2 (ageSec now t)
  | none => [Config.absentInstant.1, Config.absentInstant.2]

/-- The time left in ms on a running timer whose rule gives ms; nothing where it is stopped (R183). -/
def leftWords : Option Nat → List Word
  | some t => words2 t
  | none => []

/-- The time left in seconds on a running timer whose rule gives seconds: the pass timer (R82, R85) and the scrape timer (R99); nothing
where it is stopped (R183). The part of a second is dropped (log 36). -/
def leftSecWords (t : Option Nat) : List Word := leftWords (t.map (· / 1000))

/-- The time left on a running phase timer. -/
def phaseLeft {α : Type} (p : Option (α × Nat)) : List Word := leftWords (p.map Prod.snd)

/-! ## Entries (11.4) -/

def SysEntry.words (slot : Fin 8) (e : SysEntry) : List Word :=
  [word (number slot), word (number e.id), word e.level] ++ signed2 e.dMin ++ signed2 e.dMax ++
    [word e.aMin, word e.aMax, word e.fMin, word e.fMax, word e.confirm, e.mask.zeroExtend 16, word e.switchPos,
     word e.allowance]

def WindowEntry.words (slot : Fin 16) (w : WindowEntry) : List Word :=
  [word (number slot), word (number w.first), word (number w.last), word w.level, w.down.code, flag w.mirror]

def InterlockEntry.words (slot : Fin 32) (e : InterlockEntry) : List Word :=
  [word (number slot), e.role.code, byteWord e.code, e.states.zeroExtend 16, e.chan.code, e.zone.code]

def NodeRec.words (n : Node) (r : NodeRec) : List Word := [word (number n), r.role.code, word r.period]

def PosRec.words (p : Pos) (r : PosRec) : List Word :=
  [word (number p), num (r.assigned.map PosAssign.node), num (r.assigned.map PosAssign.cls),
   num (r.assigned.bind PosAssign.strip)]

def ZoneRec.words (z : Zone) (r : ZoneRec) : List Word :=
  [word (number z), num r.node, word r.rated, word r.duration, word r.interval, flag r.seasonOnly]

/-! ## Configuration items (R160, 11.4) -/

/-- The items of R160 in the order of its table, 1 to 24. -/
inductive ConfigItem where
  | hysteresis | deadAc | deadDc | confirm | raiseWindow | lowerWindow | cooldown | contactLoss | rank | recognitionDeadline
  | switchWindow | settleInterval | closeWindow | openWindow | neutralDeadline | autoReclose | acceptCompatible | stagger
  | heaterBypass | autoScrape | autoScrapeSpacing | scrapeDuration | txBypass | silenceTime
  deriving DecidableEq, Repr

def configItems : List ConfigItem :=
  [.hysteresis, .deadAc, .deadDc, .confirm, .raiseWindow, .lowerWindow, .cooldown, .contactLoss, .rank, .recognitionDeadline,
   .switchWindow, .settleInterval, .closeWindow, .openWindow, .neutralDeadline, .autoReclose, .acceptCompatible, .stagger,
   .heaterBypass, .autoScrape, .autoScrapeSpacing, .scrapeDuration, .txBypass, .silenceTime]

/-- The item of a number (11.4). -/
def configItem? (w : Word) : Option ConfigItem := if w = 0 then none else configItems[w.toNat - 1]?

/-- The number of an item (11.4). -/
def ConfigItem.number (i : ConfigItem) : Nat := configItems.idxOf i + 1

/-- The range of a numeric item (R160); `none` for an on-or-off item. -/
def ConfigItem.range? : ConfigItem → Option (Nat × Nat)
  | .hysteresis => some (50, 4095)
  | .deadAc => some (200, 10000)
  | .deadDc => some (200, 10000)
  | .confirm => some (1, 15)
  | .raiseWindow => some (1000, 15000)
  | .lowerWindow => some (1000, 10000)
  | .cooldown => some (5000, 120000)
  | .contactLoss => some (1, 255)
  | .rank => some (0, 7)
  | .recognitionDeadline => some (1000, 30000)
  | .switchWindow => some (1000, 10000)
  | .settleInterval => some (0, 1000)
  | .closeWindow => some (100, 2000)
  | .openWindow => some (100, 1000)
  | .neutralDeadline => some (5000, 120000)
  | .autoReclose => none
  | .acceptCompatible => none
  | .stagger => some (500, 5000)
  | .heaterBypass => some (0, 7)
  | .autoScrape => none
  | .autoScrapeSpacing => some (60, 3600)
  | .scrapeDuration => some (10, 600)
  | .txBypass => some (0, 15)
  | .silenceTime => some (500, 10000)

/-- The default of an item (R160); an on-or-off item's is 1 for on and 0 for off. -/
def ConfigItem.default : ConfigItem → Nat
  | .hysteresis => 500
  | .deadAc => 1000
  | .deadDc => 1000
  | .confirm => 2
  | .raiseWindow => 6000
  | .lowerWindow => 3000
  | .cooldown => 30000
  | .contactLoss => 40
  | .rank => 7
  | .recognitionDeadline => 5000
  | .switchWindow => 4000
  | .settleInterval => 200
  | .closeWindow => 500
  | .openWindow => 300
  | .neutralDeadline => 30000
  | .autoReclose => 1
  | .acceptCompatible => 0
  | .stagger => 2000
  | .heaterBypass => 3
  | .autoScrape => 0
  | .autoScrapeSpacing => 600
  | .scrapeDuration => 120
  | .txBypass => 4
  | .silenceTime => 2000

/-- An item of the configuration set takes a value; the rank is not one of `Settings`. -/
def ConfigItem.put (v : Nat) (t : Settings) : ConfigItem → Settings
  | .hysteresis => { t with hysteresis := v }
  | .deadAc => { t with deadAc := v }
  | .deadDc => { t with deadDc := v }
  | .confirm => { t with confirm := v }
  | .raiseWindow => { t with raiseWindow := v }
  | .lowerWindow => { t with lowerWindow := v }
  | .cooldown => { t with cooldown := v }
  | .contactLoss => { t with contactLoss := v }
  | .rank => t
  | .recognitionDeadline => { t with recognitionDeadline := v }
  | .switchWindow => { t with switchWindow := v }
  | .settleInterval => { t with settleInterval := v }
  | .closeWindow => { t with closeWindow := v }
  | .openWindow => { t with openWindow := v }
  | .neutralDeadline => { t with neutralDeadline := v }
  | .autoReclose => { t with autoReclose := v = 1 }
  | .acceptCompatible => { t with acceptCompatible := v = 1 }
  | .stagger => { t with stagger := v }
  | .heaterBypass => { t with heaterBypass := v }
  | .autoScrape => { t with autoScrape := v = 1 }
  | .autoScrapeSpacing => { t with autoScrapeSpacing := v }
  | .scrapeDuration => { t with scrapeDuration := v }
  | .txBypass => { t with txBypass := v }
  | .silenceTime => { t with silenceTime := v }

/-- An on-or-off setting as a value. -/
def onOffValue (b : Bool) : Nat := if b then 1 else 0

/-- The value of an item in force; the rank is the channel's. -/
def ConfigItem.get (s : State) (c : Option Chan) (i : ConfigItem) : Nat :=
  let t := s.settings
  match i with
  | .hysteresis => t.hysteresis
  | .deadAc => t.deadAc
  | .deadDc => t.deadDc
  | .confirm => t.confirm
  | .raiseWindow => t.raiseWindow
  | .lowerWindow => t.lowerWindow
  | .cooldown => t.cooldown
  | .contactLoss => t.contactLoss
  | .rank => match c with
    | some c => s.channels[c].rank
    | none => 0
  | .recognitionDeadline => t.recognitionDeadline
  | .switchWindow => t.switchWindow
  | .settleInterval => t.settleInterval
  | .closeWindow => t.closeWindow
  | .openWindow => t.openWindow
  | .neutralDeadline => t.neutralDeadline
  | .autoReclose => onOffValue t.autoReclose
  | .acceptCompatible => onOffValue t.acceptCompatible
  | .stagger => t.stagger
  | .heaterBypass => t.heaterBypass
  | .autoScrape => onOffValue t.autoScrape
  | .autoScrapeSpacing => t.autoScrapeSpacing
  | .scrapeDuration => t.scrapeDuration
  | .txBypass => t.txBypass
  | .silenceTime => t.silenceTime

/-- The layout of a CONFIG entry (11.4). -/
def configWords (i : ConfigItem) (c : Option Chan) (v : Nat) : List Word := [word i.number, num c] ++ words2 v

/-- The item's value is a time (R160), which READ-STATUS carries in two words (R183). -/
def ConfigItem.isTime : ConfigItem → Bool
  | .raiseWindow | .lowerWindow | .cooldown | .recognitionDeadline | .switchWindow | .settleInterval | .closeWindow | .openWindow
  | .neutralDeadline | .stagger | .autoScrapeSpacing | .scrapeDuration | .silenceTime => true
  | .hysteresis | .deadAc | .deadDc | .confirm | .contactLoss | .rank | .autoReclose | .acceptCompatible | .heaterBypass
  | .autoScrape | .txBypass => false

/-! ## Notices -/

/-- The subject word of a notice: kind in bits 15 to 8, index in bits 7 to 0 (11.3). -/
def Subject.code : Subject → Word
  | .none => 0
  | .chan c => word (256 + number c)
  | .zone z => word (512 + number z)
  | .node n => word (768 + number n)
  | .trainLink => word (1024 + 1)
  | .roofLink => word (1024 + 2)

/-- The data words of a notice (R183, in the order of the rule that gives the data). -/
def NoticeData.words : NoticeData → List Word
  | .lineChange new old d a f c => [new.code, old.code] ++ signed2 d ++ [word a, word f, word c]
  | .recognitionTimeout active result => [num active, result.code]
  | .systemMismatch active r collector => [num active, word (number r), num collector]
  | .systemSubstituted ordered new => [num ordered, word (number new)]
  | .recognitionLost active result => [num active, result.code]
  | .channelFault _ fault entered cause counter limit =>
    [fault.code, entered.code, LowerCause.code cause, word counter, word limit]
  | .arcWatch _ counter limit duty arc contact => [word counter, word limit, duty.code, word arc, flag contact]
  | .noCollector active left lost => [num active, left.code, num lost]
  | .lockout cause left active collector => [cause.code, left.code, num active, num collector]
  | .trip count active kind => [word count, num active, kind.code]
  | .iceRisk _ owed age state => [word owed] ++ words2 age ++ [state.code]
  | .zoneFault _ kind accum owed => [kind.code] ++ words2 accum ++ [word owed]
  | .scrapeEnd _ reason origin run time heated => [reason.code, origin.code, run.code] ++ words2 time ++ [flag heated]
  | .nodeMismatch _ configured role cls expected => [configured.code, role.getD Config.absentRole, cls.getD 0, num expected]
  | .nodeSilent _ configured period age => [configured.code] ++ words2 period ++ words2 age
  | .linkCheckTrain kind count => [failureCode kind, word count]
  | .linkCheckRoof kind count => [failureCode kind, word count]
  | .mirrorOverflow _ cls code losses => [cls.code, byteWord code, word losses]
  | .trainSilence time state => words2 time ++ [state.code]
  | .noticesLost count => [word count]

/-! ## The records of READ-STATUS (R158) -/

/-- The takeover grant output (R120, R122; log 20). -/
def grantOutput (s : State) : Bool := granted s

/-- The return request output (R121; log 20). -/
def returnRequest (s : State) : Bool :=
  granted s && ((s.roof.classA.toList.any Option.isSome) || ! s.roof.classB.isEmpty || s.takeover.held)

/-- The part summary (R158). -/
def summaryWords (s : State) : List Word :=
  [s.recog.stream.code, s.recog.result.code, s.co.state.code, num s.co.active, num s.co.ordered, s.co.lockoutCause.code]
  ++ ((List.finRange 4).flatMap fun c => [s.channels[c].state.code, s.channels[c].duty.code])
  ++ ((List.finRange 4).map fun c => word (number s.roleMap[c]))
  ++ ((List.finRange 10).flatMap fun z => [s.zones[z].state.code, word s.zones[z].owedPasses])
  ++ [flag s.iceSeason]
  ++ [s.scrape.run.code, num s.scrape.chan, num s.scrape.forcedZone, s.scrape.origin.code, flag (heated s),
      flag s.scrape.timer.isSome] ++ leftSecWords s.scrape.timer ++ ageWords s.now s.scrape.lastEnd
  ++ [s.takeover.state.code]

/-- The recognition record (R17). -/
def recognitionWords (s : State) : List Word :=
  let r := s.recog
  [r.result.code, r.candidate.code, word r.run] ++ signed2 r.lastD
  ++ [word r.lastA, word r.lastF, word r.lastC, word r.windowCount, word r.gapCount, r.stream.code, word r.sampleCount]

/-- The changeover record (R50, R52), with the time left on the two timers that R50 lists as timers (log 54). -/
def changeoverWords (s : State) : List Word :=
  let r := s.co
  [r.state.code, num r.active, num r.ordered, num r.collector, r.plan.code,
   (match r.phase with | none => 0 | some (k, _) => k.code), r.close.code, flag r.sustain.isSome, flag r.openRep.isSome,
   word r.trips, flag r.tripQuiet.isSome, r.lockoutCause.code, BreakerPos.code r.lastBreaker, switchCode r.lastSwitch,
   flag r.neutralAnnounced, flag r.recloseGranted, flag r.substituteUsed, flag r.graded]
  ++ phaseLeft r.phase ++ leftWords r.tripQuiet

/-- A channel (R26). -/
def channelWords (s : State) (c : Chan) : List Word :=
  let r := s.channels[c]
  let a := assignOf s c
  [r.state.code, r.duty.code, word r.counter, word r.limit, (match r.phase with | none => 0 | some (k, _) => k.code),
   r.lastFault.code, LowerCause.code r.cause, word r.rank, word (number s.roleMap[c]), num (a.map PosAssign.node),
   (match chanNode? s c with | some n => s.nodes[n].presence.code | none => Config.noNodePresence),
   num (a.map PosAssign.cls), num (a.bind PosAssign.strip), PanPos.code (posOf s c).lastPos]
  ++ phaseLeft r.phase

/-- A zone's place in the pass queue, where it is WAITING (R82, R87): 1 for the head (log 13). -/
def queuePlace (s : State) (z : Zone) : List Word :=
  if s.zones[z].state = .waiting then [word ((passQueue s).idxOf z + 1)] else []

/-- A zone (R82). -/
def zoneWords (s : State) (z : Zone) : List Word :=
  let r := s.zones[z]
  [num r.node, word r.rated] ++ words2 r.duration ++ words2 r.interval ++ [flag r.seasonOnly, r.state.code, word r.owedPasses]
  ++ ageWords s.now r.due ++ words2 r.accum ++ [flag r.passTimer.isSome, flag r.iceRisk, flag r.forced, word r.bypassed]
  ++ ageWords s.now r.lastStart ++ [ContactorPos.code r.lastReport] ++ leftSecWords r.passTimer ++ queuePlace s z

/-- The content of an outstanding slot: code, roof sequence, originator, the train sequence of a forwarded command, and the time to
the deadline (R107, R117). -/
def Outstanding.words (o : Outstanding) : List Word :=
  [byteWord o.code, byteWord o.seq]
  ++ (match o.origin with | .part .. => [Config.partOriginator] | .train q => [Config.trainOriginator, byteWord q])
  ++ words2 o.deadline

/-- A node (R107); the word for an absent declared role is a free value (log 47). The slot's row is a flag, on where it is filled, and the
slot's content stands at the end (log 13). -/
def nodeWords (s : State) (n : Node) : List Word :=
  let r := s.nodes[n]
  [r.role.code] ++ words2 r.period ++ [r.presence.code] ++ words2 r.age
  ++ [r.declRole.getD Config.absentRole, r.declClass.getD 0, byteWord r.seq, flag r.slot.isSome]
  ++ (if supervised r then words2 (3 * r.period - r.age) else [])
  ++ (match r.slot with | some o => o.words | none => [])

/-- The frame in transmission by node and code (R124). -/
def RoofItem.words : RoofItem → List Word
  | .classA n f => [word (number n), byteWord f.code]
  | .classB e => [word (number e.node), byteWord e.cmd.code]
  | .classC e => [word (number e.node), byteWord e.code]

/-- The link status (R105, R124, R137, R158); with the roof transmitter IDLE no word stands for its frame (log 13). -/
def linkWords (s : State) : List Word :=
  let t := s.train
  [word t.checkFail, word t.reqDiscard, word t.responses.length, word t.notices.length, flag t.overflow, word t.lost,
   flag t.silent]
  ++ [word s.roofCheckFail, s.takeover.state.code, flag s.takeover.request, flag (grantOutput s), flag (returnRequest s),
      flag s.takeover.held]
  ++ ((List.finRange 63).flatMap fun n => match s.roof.classA[n] with
      | none => []
      | some f => [word (number n), byteWord f.code])
  ++ (s.roof.classB.flatMap fun e => [word (number e.node), byteWord e.cmd.code])
  ++ (s.roof.classC.flatMap fun e => [word (number e.node), byteWord e.code])
  ++ [word s.roof.bypass] ++ (match s.roof.tx with | none => [] | some x => x.item.words)
  ++ [word s.fwd.passed, word s.fwd.refused, word s.fwd.discarded, word s.fwd.mirrorLoss]

/-- One item of the configuration as READ-STATUS carries it: a time in two words, the rank once per channel (R158, R183). -/
def configStatus (s : State) (i : ConfigItem) : List Word :=
  if i = .rank then (List.finRange 4).map fun c => word s.channels[c].rank
  else if i.isTime then words2 (i.get s none)
  else [word (i.get s none)]

/-- The configuration (R158, R160). -/
def configurationWords (s : State) : List Word := configItems.flatMap (configStatus s)

end Sys2Proof.Machine
end

