-- ==== Sys2Proof/Machine/Forwarding.lean ====
section
/-! DEFINITION. Forwarding and Interlock (07): the decision of a node command (R137, R141 to R145, R149). -/

namespace Sys2Proof.Machine

/-- The slot of the Interlock Table that holds a key, and its entry (R147, R149). -/
def interlock? (s : State) (role : Role) (code : Byte) : Option (Fin 32 × InterlockEntry) :=
  (List.finRange 32).findSome? fun i =>
    match s.fwd.interlocks[i] with
    | some e => if e.role = role ∧ e.code = code then some (i, e) else none
    | none => none

/-- The channel condition of an entry holds (R149). -/
def chanCondHolds (s : State) : ChanCond → Bool
  | .any => true
  | .allDown => (List.finRange 4).all fun c => ! moving s c
  | .noCollector => (List.finRange 4).all fun c => s.channels[c].duty ≠ .collect

/-- The zone condition of an entry holds (R149). -/
def zoneCondHolds (s : State) : ZoneCond → Bool
  | .any => true
  | .noneHeating => (List.finRange 10).all fun z => s.zones[z].state ≠ .heating

/-- All three conditions of an entry hold (R149). -/
def interlockHolds (s : State) (e : InterlockEntry) : Bool :=
  e.states.getLsbD s.co.state.value && chanCondHolds s e.chan && zoneCondHolds s e.zone

/-- What becomes of a node command that is taken (R142 to R144). -/
inductive Fate where
  | drop
  | refuse (r : Result) (data : List Word)
  | pass
  deriving DecidableEq, Repr

/-- Step 5 and then step 6 (R144). -/
def queueSpace (s : State) : Fate := if 8 ≤ s.roof.classC.length then .refuse .full [] else .pass

/-- The interlock check of step 5, then step 6 (R144, R145, R149). -/
def interlockStep (s : State) (n : Node) (code : Byte) : Fate :=
  match interlock? s s.nodes[n].role code with
  | none => .refuse .noRule [s.co.state.code]
  | some (i, e) => if interlockHolds s e then queueSpace s else .refuse .interlock [s.co.state.code, word (number i)]

/-- Steps 1 to 6 (R143, R144), `check` for a CHECK window. -/
def commandSteps (s : State) (check : Bool) (n : Node) (code : Byte) : Fate :=
  if code.toNat < 64 then .refuse .reservedCode []
  else if s.nodes[n].role = .noRole then .refuse .noRoute []
  else if s.nodes[n].presence = .mismatch then .refuse .mismatch []
  else if s.nodes[n].presence = .silent then .refuse .silent []
  else if granted s then .refuse .held []
  else if check then interlockStep s n code
  else queueSpace s

/-- The decision of a node command (R142). -/
def commandFate (s : State) (n : Node) (code : Byte) : Fate :=
  match decidingWindow? s n with
  | none => .refuse .noRoute []
  | some w =>
    match w.down with
    | .drop => .drop
    | .pass => commandSteps s false n code
    | .chk => commandSteps s true n code

/-- A node command is discarded and counted (R137, R142). -/
def discardCommand (s : State) : State := s.modFwd fun f => { f with discarded := satSucc 65535 f.discarded }

/-- A node command taken is decided (R137, R142 to R145). -/
def decideCommand (n : Node) (seq code : Byte) (payload : List Word) (s : State) : State :=
  match commandFate s n code with
  | .drop => discardCommand s
  | .refuse r extra =>
    addResponse { seq := seq, code := code, result := r, data := [word (number n), byteWord code] ++ extra }
      (s.modFwd fun f => { f with refused := satSucc 65535 f.refused })
  | .pass =>
    (s.modRoof fun r => { r with classC := r.classC ++ [(⟨n, code, payload, seq⟩ : CEntry)] }).modFwd fun f =>
      { f with passed := satSucc 65535 f.passed }

end Sys2Proof.Machine
end

