-- ==== Sys2Proof/Machine/Requests.lean ====
section
/-! DEFINITION. Management requests (08): the exchange (R154 to R156), reads (R158, R159), and the loads and clears of the tables and of
the configuration set (R13, R14, R23, R83, R108, R109, R139, R140, R148, R160, R182). -/

namespace Sys2Proof.Machine

/-! ## The exchange (8.1) -/

/-- The answer to a request: the state its rule leaves, the result, and the data (R155). -/
structure Reply where
  state : State
  result : Result
  data : List Word := []
  deriving DecidableEq, Repr

/-- A refusal leaves the state as it was. -/
def refuse (s : State) (r : Result) : Reply := { state := s, result := r }

/-- An answer OK. -/
def accept (s : State) (data : List Word) : Reply := { state := s, result := .ok, data := data }

/-- A valid train frame restarts the silence timer and clears the silent mark (R154, R169). -/
def trainFrameTaken (s : State) : State :=
  s.modTrain fun t => { t with silence := some s.settings.silenceTime, silent := false }

/-- The bound of the response queue for what arrives on the train link (R156). -/
def responseMax : Nat := 8

/-- A place in the response queue is free (R156). -/
def responsePlace (s : State) : Bool := s.train.responses.length < responseMax

/-- A request is discarded unanswered and counted (R155, R163). -/
def discardRequest (s : State) : State := s.modTrain fun t => { t with reqDiscard := satSucc 65535 t.reqDiscard }

/-- A refusal with HELD sets the held-refusal flag while the takeover is GRANTED (R121). -/
def noteHeld (r : Result) (s : State) : State :=
  if r = .held ∧ granted s then s.modTakeover fun t => { t with held := true } else s

/-- The one RESPONSE of a request is placed (R155). -/
def respond (seq code : Byte) (r : Reply) : State :=
  addResponse { seq := seq, code := code, result := r.result, data := r.data } (noteHeld r.result r.state)

/-- A management request (R154, R155, R163): `decide` is the request's own rule. -/
def manage (seq code : Byte) (decide : State → Reply) (s : State) : State :=
  let s := trainFrameTaken s
  if s.train.resetPending ∨ ¬ responsePlace s then discardRequest s else respond seq code (decide s)

/-- A node command (R137, R154, R163). -/
def nodeCommandFrame (n : Node) (seq code : Byte) (payload : List Word) (s : State) : State :=
  let s := trainFrameTaken s
  if s.train.resetPending then s
  else if responsePlace s then decideCommand n seq code payload s
  else discardCommand s

/-- A train frame that fails its check (R154). -/
def trainCheckFailed (k : FrameFailure) (s : State) : State :=
  let s := s.modTrain fun t => { t with checkFail := satSucc 65535 t.checkFail }
  queueNotice (.linkCheckTrain k s.train.checkFail) s

/-- A request whose code names no request, or whose table word names no table (R155, R182; log 29). -/
def unknownReply (code : Byte) (s : State) : Reply := refuse s (if isRequestCode code then .badEntry else .unknownRequest)

/-! ## Slot tables -/

/-- A slot other than i holds an entry with the property. -/
def otherSlot {α : Type} {n : Nat} (v : Vector (Option α) n) (i : Fin n) (p : α → Bool) : Bool :=
  (List.finRange n).any fun j => j ≠ i && (v[j]).any p

/-! ## SYSTEM (R13, R14) -/

/-- An entry with its values clamped to their ranges: step 3 of R13. The class mask is a word still to be checked. -/
def clampSystem (id : SysId) (level : Word) (dMin dMax : Int) (aMin aMax fMin fMax confirm mask switchPos allowance : Word) :
    SysEntry :=
  { id := id, level := clamp 1 3 level.toNat, dMin := clampInt (-65536) 65535 dMin, dMax := clampInt (-65536) 65535 dMax,
    aMin := aMin.toNat, aMax := aMax.toNat, fMin := clamp 0 9999 fMin.toNat, fMax := clamp 0 9999 fMax.toNat,
    confirm := clamp 1 15 confirm.toNat, mask := mask.truncate 4, switchPos := clamp 1 4 switchPos.toNat,
    allowance := clamp 0 250 allowance.toNat }

/-- The entry is consistent in itself: step 4 of R13, but for the mask. -/
def SysEntry.consistent (e : SysEntry) : Bool := e.dMin ≤ e.dMax ∧ e.aMin ≤ e.aMax ∧ e.fMin ≤ e.fMax

/-- A mask word names a non-empty set of classes (R13, 11.4). -/
def maskOk (w : Word) : Bool := w ≠ 0 ∧ w.toNat < 16

/-- Steps 4 to 6 of R13. -/
def storeSystem (slot : Fin 8) (e : SysEntry) (mask : Word) (s : State) : Reply :=
  if ¬ e.consistent ∨ ¬ maskOk mask then refuse s .badEntry
  else if otherSlot s.systems slot fun x => x.id = e.id then refuse s .duplicate
  else accept { s with systems := s.systems.set slot (some e) } (e.words slot)

/-- LOAD-ENTRY for SYSTEM (R13, R182). -/
def loadSystem (entry : List Word) (s : State) : Reply :=
  match entry with
  | slot :: id :: level :: dMinH :: dMinL :: dMaxH :: dMaxL :: aMin :: aMax :: fMin :: fMax :: confirm :: mask :: switch ::
      allow :: _ =>
    if frozen s then refuse s .frozen
    else
      match numbered? 8 slot.toNat, numbered? 8 id.toNat with
      | some i, some k =>
        storeSystem i (clampSystem k level (wideSigned dMinH dMinL) (wideSigned dMaxH dMaxL) aMin aMax fMin fMax confirm mask
          switch allow) mask s
      | _, _ => refuse s .badEntry
  | _ => refuse s .badEntry

/-- A clear of a frozen slot table: the freeze, then the slot (R14, R140, R148, R159, R182). -/
def clearSlot {n : Nat} (key : List Word) (s : State) (clear : Fin n → State) : Reply :=
  match key with
  | slot :: _ =>
    if frozen s then refuse s .frozen
    else
      match numbered? n slot.toNat with
      | some i => accept (clear i) []
      | none => refuse s .badEntry
  | [] => refuse s .badEntry

/-- CLEAR-ENTRY for SYSTEM (R14). -/
def clearSystem (key : List Word) (s : State) : Reply :=
  clearSlot key s fun i : Fin 8 => { s with systems := s.systems.set i none }

/-! ## POSITION (R23) -/

/-- A re-judging of the node a position named before, where it is another one (R110). -/
def rejudgeOld (old : Option Node) (now : Option Node) (s : State) : State :=
  match old with
  | none => s
  | some n => if now = some n then s else rejudge n s

/-- An accepted POSITION load (R23, R110). -/
def storePosition (p : Pos) (a : PosAssign) (s : State) : State :=
  let old := s.positions[p].assigned.map PosAssign.node
  let s := s.modPos p fun r =>
    { assigned := some a, lastPos := if old = some a.node then r.lastPos else none }
  rejudgeOld old (some a.node) (rejudge a.node s)

/-- The strip zone of a POSITION load: 0 none, 1 to 10; `none` where it is neither (11.4). -/
def stripZone? (w : Word) : Option (Option Zone) :=
  if w = 0 then some none else (numbered? 10 w.toNat).map some

/-- Steps 3 to 5 of R23. -/
def admitPosition (p : Pos) (a : PosAssign) (s : State) : Reply :=
  if s.nodes[a.node].role ≠ .pantographUnit then refuse s .badEntry
  else if (List.finRange 4).any fun q => q ≠ p ∧ s.positions[q].assigned.map PosAssign.node = some a.node then
    refuse s .duplicate
  else accept (storePosition p a s) (PosRec.words p { assigned := some a, lastPos := none })

/-- LOAD-ENTRY for POSITION (R23, R182). -/
def loadPosition (entry : List Word) (s : State) : Reply :=
  match entry with
  | p :: n :: c :: z :: _ =>
    if frozen s then refuse s .frozen
    else
      match numbered? 4 p.toNat, numbered? 63 n.toNat, numbered? 4 c.toNat, stripZone? z with
      | some p, some n, some c, some z => admitPosition p { node := n, cls := c, strip := z } s
      | _, _, _, _ => refuse s .badEntry
  | _ => refuse s .badEntry

/-- CLEAR-ENTRY for POSITION (R23, R110). -/
def clearPosition (key : List Word) (s : State) : Reply :=
  clearSlot key s fun p : Pos =>
    rejudgeOld (s.positions[p].assigned.map PosAssign.node) none (s.modPos p fun _ => {})

/-! ## ZONE (R83) -/

/-- The zone's configuration is written (R83). -/
def configureZone (n : Node) (rated duration interval : Nat) (season : Bool) (r : ZoneRec) : ZoneRec :=
  { r with node := some n, rated := rated, duration := duration, interval := interval, seasonOnly := season,
           lastReport := if r.node = some n then r.lastReport else none,
           accum := if r.state = .waiting then min r.accum (duration * 1000) else r.accum }

/-- An accepted ZONE load, with its start decision (R83, R85, R91; log 50). -/
def storeZone (z : Zone) (n : Node) (rated duration interval : Nat) (season : Bool) (s : State) : State :=
  startDecision (s.modZone z fun r => restartTimer s.iceSeason (configureZone n rated duration interval season r))

/-- The zone is HEATING or PAUSED, which refuses its load and clear (R83). -/
def zoneBusy (s : State) (z : Zone) : Bool := s.zones[z].state = .heating ∨ s.zones[z].state = .paused

/-- Steps 2 to 6 of R83. -/
def admitZone (z : Zone) (n : Node) (rated duration interval : Nat) (season : Bool) (s : State) : Reply :=
  if zoneBusy s z then refuse s .busy
  else if s.nodes[n].role ≠ .heaterContactor then refuse s .badEntry
  else if (List.finRange 10).any fun y => y ≠ z ∧ s.zones[y].node = some n then refuse s .duplicate
  else
    let t := storeZone z n (clamp 1 60 rated) (clamp 10 600 duration) (clamp 60 3600 interval) season s
    accept t (ZoneRec.words z t.zones[z])

/-- LOAD-ENTRY for ZONE (R83, R182). -/
def loadZone (entry : List Word) (s : State) : Reply :=
  match entry with
  | z :: n :: rated :: duration :: interval :: season :: _ =>
    match numbered? 10 z.toNat, numbered? 63 n.toNat, onOff? season with
    | some z, some n, some b => admitZone z n rated.toNat duration.toNat interval.toNat b s
    | _, _, _ => refuse s .badEntry
  | _ => refuse s .badEntry

/-- The zone's record after a clear (R83; the accumulator by R94, log 22). -/
def unassignZone (r : ZoneRec) : ZoneRec :=
  { r with node := none, state := .idle, owedPasses := 0, due := none, accum := 0, passTimer := none, iceRisk := false,
           forced := false, bypassed := 0, lastReport := none }

/-- An accepted ZONE clear; a zone that leaves the pass queue makes a start decision (R83, R91). -/
def dropZone (z : Zone) (s : State) : State :=
  let t := s.modZone z unassignZone
  if s.zones[z].state = .waiting then startDecision t else t

/-- CLEAR-ENTRY for ZONE (R83). -/
def clearZone (key : List Word) (s : State) : Reply :=
  match key with
  | z :: _ =>
    match numbered? 10 z.toNat with
    | some z => if zoneBusy s z then refuse s .busy else accept (dropZone z s) []
    | none => refuse s .badEntry
  | [] => refuse s .badEntry

/-! ## NODE (R108, R109) -/

/-- A position record or a zone record names the node (R108). -/
def named (s : State) (n : Node) : Bool := (posNaming? s n).isSome || (zoneOfNode? s n).isSome

/-- At most one node holds the role (R107). -/
def Role.single : Role → Bool
  | .lineSensor | .breaker | .changeoverSwitch => true
  | .noRole | .pantographUnit | .heaterContactor | .auxiliary => false

/-- A change of presence made by a load is handed on (R109, R113, R114). -/
def loadPresence (n : Node) (old : Presence) (s : State) : State :=
  if s.nodes[n].presence = old then s else presenceHandOn n s

/-- The node's record after an accepted load (R109). -/
def loadedNode (role : Role) (period : Nat) (r : NodeRec) : NodeRec :=
  if r.role = role then
    (if r.presence = .mismatch then { r with period := period, presence := .absent, declRole := none, declClass := none }
     else { r with period := period })
  else { r with role := role, period := period, presence := .absent, declRole := none, declClass := none, ageRuns := false }

/-- An accepted NODE load (R109). -/
def storeNode (n : Node) (role : Role) (period : Nat) (s : State) : State :=
  let old := s.nodes[n].presence
  let s := loadPresence n old (s.modNode n (loadedNode role period))
  if s.nodes[n].presence = .absent then placeAnnounce n s else s

/-- Steps 3 to 6 of R108. -/
def admitNode (n : Node) (role : Role) (period : Nat) (s : State) : Reply :=
  if s.nodes[n].role ≠ role ∧ named s n then refuse s .refusedState
  else if role.single ∧ (List.finRange 63).any fun m => m ≠ n ∧ s.nodes[m].role = role then refuse s .duplicate
  else
    accept (storeNode n role (clamp 0 5000 period) s) [word (number n), role.code, word (clamp 0 5000 period)]

/-- LOAD-ENTRY for NODE (R108, R182). -/
def loadNode (entry : List Word) (s : State) : Reply :=
  match entry with
  | n :: role :: period :: _ =>
    if frozen s then refuse s .frozen
    else
      match numbered? 63 n.toNat, loadableRole? role with
      | some n, some r => admitNode n r period.toNat s
      | _, _ => refuse s .badEntry
  | _ => refuse s .badEntry

/-- The node's record after a clear (R108). -/
def clearedNode (r : NodeRec) : NodeRec :=
  { r with role := .noRole, period := 0, presence := .absent, declRole := none, declClass := none }

/-- CLEAR-ENTRY for NODE (R108). -/
def clearNode (key : List Word) (s : State) : Reply :=
  match key with
  | n :: _ =>
    if frozen s then refuse s .frozen
    else
      match numbered? 63 n.toNat with
      | some n =>
        if s.nodes[n].role ≠ .noRole ∧ named s n then refuse s .refusedState else accept (s.modNode n clearedNode) []
      | none => refuse s .badEntry
  | [] => refuse s .badEntry

/-! ## WINDOW (R139, R140) -/

/-- Two windows cover some address in common (R139). -/
def WindowEntry.meets (v w : WindowEntry) : Bool := v.first ≤ w.last ∧ w.first ≤ v.last

/-- Steps 4 to 6 of R139. -/
def storeWindow (slot : Fin 16) (w : WindowEntry) (s : State) : Reply :=
  if w.last < w.first then refuse s .badEntry
  else if otherSlot s.fwd.windows slot fun v => decide (v.level = w.level) && v.meets w then refuse s .overlap
  else accept (s.modFwd fun f => { f with windows := f.windows.set slot (some w) }) (w.words slot)

/-- LOAD-ENTRY for WINDOW (R139, R182). -/
def loadWindow (entry : List Word) (s : State) : Reply :=
  match entry with
  | slot :: first :: last :: level :: down :: mirror :: _ =>
    if frozen s then refuse s .frozen
    else
      match numbered? 16 slot.toNat, numbered? 63 first.toNat, numbered? 63 last.toNat, downAction? down, onOff? mirror with
      | some i, some a, some b, some d, some m =>
        storeWindow i { first := a, last := b, level := clamp 1 3 level.toNat, down := d, mirror := m } s
      | _, _, _, _, _ => refuse s .badEntry
  | _ => refuse s .badEntry

/-- CLEAR-ENTRY for WINDOW (R140). -/
def clearWindow (key : List Word) (s : State) : Reply :=
  clearSlot key s fun i : Fin 16 => s.modFwd fun f => { f with windows := f.windows.set i none }

/-! ## INTERLOCK (R148) -/

/-- A command code of an interlock entry: 64 to 255 (R147). -/
def forwardCode? (w : Word) : Option Byte := if 64 ≤ w.toNat ∧ w.toNat ≤ 255 then some (w.truncate 8) else none

/-- A state set: not empty, no state outside the eleven (R148, 11.4). -/
def stateSet? (w : Word) : Option (BitVec 11) := if w ≠ 0 ∧ w.toNat < 2048 then some (w.truncate 11) else none

/-- Steps 3 and 4 of R148. -/
def storeInterlock (slot : Fin 32) (e : InterlockEntry) (s : State) : Reply :=
  if otherSlot s.fwd.interlocks slot fun x => decide (x.role = e.role) && decide (x.code = e.code) then refuse s .duplicate
  else accept (s.modFwd fun f => { f with interlocks := f.interlocks.set slot (some e) }) (e.words slot)

/-- LOAD-ENTRY for INTERLOCK (R148, R182). -/
def loadInterlock (entry : List Word) (s : State) : Reply :=
  match entry with
  | slot :: role :: code :: states :: chan :: zone :: _ =>
    if frozen s then refuse s .frozen
    else
      match numbered? 32 slot.toNat, loadableRole? role, forwardCode? code, stateSet? states, chanCond? chan, zoneCond? zone with
      | some i, some r, some c, some b, some cc, some zc =>
        storeInterlock i { role := r, code := c, states := b, chan := cc, zone := zc } s
      | _, _, _, _, _, _ => refuse s .badEntry
  | _ => refuse s .badEntry

/-- CLEAR-ENTRY for INTERLOCK (R148). -/
def clearInterlock (key : List Word) (s : State) : Reply :=
  clearSlot key s fun i : Fin 32 => s.modFwd fun f => { f with interlocks := f.interlocks.set i none }

/-! ## CONFIG (R160) -/

/-- The key of a CONFIG request: the item, and the channel for the lowering rank (11.4; log 30). -/
def configKey? (item chan : Word) : Option (ConfigItem × Option Chan) :=
  match configItem? item with
  | none => none
  | some .rank => (numbered? 4 chan.toNat).map fun c => (.rank, some c)
  | some i => some (i, none)

/-- The value an item takes: clamped, or on or off, or none (R160). -/
def configValue? (i : ConfigItem) (v : Nat) : Option Nat :=
  match i.range? with
  | some (lo, hi) => some (clamp lo hi v)
  | none => if v ≤ 1 then some v else none

/-- A load of the contact-loss setting acts on the raised channels at once (R36). -/
def newContactLoss (l : Nat) (r : Channel) : Channel :=
  match r.state with
  | .raising => { r with limit := counterLimit l r.duty }
  | .up => { r with limit := counterLimit l r.duty, counter := 0 }
  | .down | .lowering | .cooldown | .locked => r

/-- An item takes a value (R36, R160). -/
def setConfig (i : ConfigItem) (c : Option Chan) (v : Nat) (s : State) : State :=
  match i, c with
  | .rank, some c => s.modChan c fun r => { r with rank := v }
  | .contactLoss, _ =>
    { s with settings := i.put v s.settings, channels := s.channels.map (newContactLoss v) }
  | i, _ => s.modSettings fun t => i.put v t

/-- LOAD-ENTRY for CONFIG (R160, R182). -/
def loadConfig (entry : List Word) (s : State) : Reply :=
  match entry with
  | item :: chan :: hi :: lo :: _ =>
    match configKey? item chan with
    | none => refuse s .badEntry
    | some (i, c) =>
      match configValue? i (wide hi lo) with
      | none => refuse s .badEntry
      | some v => accept (setConfig i c v s) (configWords i c v)
  | _ => refuse s .badEntry

/-- CLEAR-ENTRY for CONFIG (R160). -/
def clearConfig (key : List Word) (s : State) : Reply :=
  match key with
  | item :: chan :: _ =>
    match configKey? item chan with
    | none => refuse s .badEntry
    | some (i, c) => accept (setConfig i c i.default s) (configWords i c i.default)
  | _ => refuse s .badEntry

/-! ## Reads (R158, R159) -/

/-- A record of index 0 (11.3). -/
def wholeRecord (s : State) (index : Word) (data : List Word) : Reply :=
  if index = 0 then accept s data else refuse s .badEntry

/-- A record of a numbered thing (11.3). -/
def numberedRecord {n : Nat} (s : State) (index : Word) (data : Fin n → List Word) : Reply :=
  match numbered? n index.toNat with
  | some i => accept s (data i)
  | none => refuse s .badEntry

/-- READ-STATUS (R158, R182). -/
def readRecord (payload : List Word) (s : State) : Reply :=
  match payload with
  | kind :: index :: _ =>
    match kind.toNat with
    | 1 => wholeRecord s index (summaryWords s)
    | 2 => wholeRecord s index (recognitionWords s)
    | 3 => wholeRecord s index (changeoverWords s)
    | 4 => numberedRecord s index (channelWords s)
    | 5 => numberedRecord s index (zoneWords s)
    | 6 => numberedRecord s index (nodeWords s)
    | 7 => wholeRecord s index (linkWords s)
    | 8 => wholeRecord s index (configurationWords s)
    | _ => refuse s .badEntry
  | _ => refuse s .badEntry

/-- The content of a slot; an empty one is one word 0 (11.3). -/
def slotWords {α : Type} (e : Option α) (f : α → List Word) : List Word :=
  match e with
  | none => [0]
  | some e => f e

/-- READ-ENTRY (R14, R23, R83, R108, R140, R148, R159, R160). -/
def readTable (payload : List Word) (s : State) : Reply :=
  match payload with
  | t :: key :: rest =>
    match table? t with
    | none => refuse s .badEntry
    | some .system => numberedRecord s key fun i : Fin 8 => slotWords s.systems[i] (SysEntry.words i)
    | some .window => numberedRecord s key fun i : Fin 16 => slotWords s.fwd.windows[i] (WindowEntry.words i)
    | some .interlock => numberedRecord s key fun i : Fin 32 => slotWords s.fwd.interlocks[i] (InterlockEntry.words i)
    | some .node => numberedRecord s key fun n : Node => NodeRec.words n s.nodes[n]
    | some .position => numberedRecord s key fun p : Pos => PosRec.words p s.positions[p]
    | some .zone => numberedRecord s key fun z : Zone => ZoneRec.words z s.zones[z]
    | some .config =>
      match rest with
      | chan :: _ =>
        match configKey? key chan with
        | none => refuse s .badEntry
        | some (i, c) => accept s (configWords i c (i.get s c))
      | [] => refuse s .badEntry
  | _ => refuse s .badEntry

end Sys2Proof.Machine
end

