-- ==== Sys2Proof/Machine/Settle.lean ====
section
/-! DEFINITION. What follows every command: outcomes still owed (R112, R126, R176), the takeover evaluation (R120), and the picks of the
two transmitters (R129, R130, R157). -/

namespace Sys2Proof.Machine

/-! ## Outcomes owed (log 6) -/

/-- The first owed outcome COMMAND-FAILED is taken by its owner (R112). -/
def payOne (s : State) : State :=
  match s.owed with
  | [] => s
  | o :: rest => deliverPart o.cmd o.serial .failed { s with owed := rest }

/-- Owed outcomes are taken in order, at most `n` in one reaction (log 6). -/
def payOwed : Nat → State → State
  | 0, s => s
  | n + 1, s => if s.owed.isEmpty then s else payOwed n (payOne s)

/-! ## Takeover (5.7) -/

/-- A channel is in one of the three conditions of a grant (R120). -/
def chanAtRest (s : State) (c : Chan) : Bool :=
  match s.channels[c].state with
  | .down | .cooldown => true
  | .locked => (assignOf s c).isNone || (posOf s c).lastPos = some .down
  | .raising | .up | .lowering => false

/-- The grant conditions (R120). -/
def grantConditions (s : State) : Bool :=
  s.takeover.request && s.takeover.access && decide (s.co.state = .idle) && (List.finRange 4).all fun c => chanAtRest s c

/-- The takeover becomes GRANTED, and the change of the grant is handed to the Heater Scheduler (R88, R120). -/
def grant (s : State) : State := gateChange (gateOpen s) (s.modTakeover fun t => { t with state := .granted })

/-- An evaluation of the grant conditions (R120). -/
def evaluateTakeover (s : State) : State :=
  match s.takeover.state with
  | .noTakeover =>
    if grantConditions s then
      (if s.roof.tx.isNone then grant s else s.modTakeover fun t => { t with state := .pending })
    else s
  | .pending => if grantConditions s then s else s.modTakeover fun t => { t with state := .noTakeover }
  | .granted => s

/-- What a grant condition reads of a channel (R120). -/
structure ChanView where
  state : ChanState
  lockedPos : Option PanPos
  unbound : Bool
  deriving DecidableEq, Repr

/-- What the grant conditions read (R120). -/
structure GrantView where
  request : Bool
  access : Bool
  co : CoState
  chans : List ChanView
  deriving DecidableEq, Repr

/-- A channel as the grant conditions see it: the last reported position counts while it is LOCKED (R120). -/
def chanView (s : State) (c : Chan) : ChanView :=
  let locked := s.channels[c].state = .locked
  { state := s.channels[c].state, lockedPos := if locked then (posOf s c).lastPos else none,
    unbound := decide locked && (assignOf s c).isNone }

/-- What the grant conditions read of the state (R120). -/
def grantView (s : State) : GrantView :=
  { request := s.takeover.request, access := s.takeover.access, co := s.co.state,
    chans := (List.finRange 4).map (chanView s) }

/-- The evaluation at a change of any of the grant conditions' inputs (R120; log 5). -/
def takeoverAfter (was s : State) : State := if grantView was = grantView s then s else evaluateTakeover s

/-! ## The roof pick (6.2) -/

/-- The node has no outstanding command (R129). -/
def slotFree (s : State) (n : Node) : Bool := s.nodes[n].slot.isNone

/-- The lowest node address whose class A slot holds one of the frames. -/
def classAFirst (s : State) (p : AFrame → Bool) : Option (Node × AFrame) :=
  (List.finRange 63).findSome? fun n =>
    match s.roof.classA[n] with
    | some f => if p f then some (n, f) else none
    | none => none

/-- The class A pick: LOWER and OPEN, then SUSTAIN, lowest address first (R129 steps 1 and 2). -/
def pickA (s : State) : Option (Node × AFrame) :=
  match classAFirst s fun f => f ≠ .sustain with
  | some x => some x
  | none => classAFirst s fun f => f = .sustain

/-- The first class C entry is pickable (R129, R130). -/
def headPickable (s : State) : Bool :=
  match s.roof.classC with
  | [] => false
  | e :: _ => slotFree s e.node

/-- The first pickable class B entry (R129 step 4). -/
def pickB (s : State) : Option BEntry := s.roof.classB.find? fun e => slotFree s e.node

/-- The queue without its first entry that is pickable (R129 step 5). -/
def dropPick (s : State) (q : List CEntry) : List CEntry := q.eraseP fun e => slotFree s e.node

/-- The first pickable class C entry (R129 steps 3 and 5). -/
def pickC (s : State) : Option CEntry := s.roof.classC.find? fun e => slotFree s e.node

/-- What the pick takes (R129). -/
def nextRoof (s : State) : Option RoofItem :=
  match pickA s with
  | some (n, f) => some (.classA n f)
  | none =>
    if headPickable s ∧ s.settings.txBypass ≤ s.roof.bypass then (pickC s).map .classC
    else
      match pickB s with
      | some e => some (.classB e)
      | none => (pickC s).map .classC

/-- The sequence a frame carries: 0 for SUSTAIN, else the node's counter (R116, R131). -/
def frameSeq (s : State) : RoofItem → Byte
  | .classA _ .sustain => 0
  | .classA n _ => s.nodes[n].seq
  | .classB e => s.nodes[e.node].seq
  | .classC e => s.nodes[e.node].seq

/-- The arbiter after a pick: the entry leaves its slot or queue, and the bypass count follows (R130, R131). -/
def leaveQueue (s : State) (x : RoofItem) (r : Arbiter) : Arbiter :=
  match x with
  | .classA n _ => { r with classA := r.classA.set n none }
  | .classB e =>
    { r with classB := r.classB.erase e, bypass := if headPickable s then satSucc 15 r.bypass else r.bypass }
  | .classC _ =>
    { r with classC := dropPick s r.classC, bypass := if headPickable s then 0 else r.bypass }

/-- The departure of a CLOSE is handed to the Power Path Controller (R62, R131). -/
def tellDeparture (x : RoofItem) (s : State) : State :=
  match x with
  | .classB e => match e.cmd with
    | .close => closeDeparted s
    | .raise _ | .switch _ | .heatOn _ | .heatOff _ | .announceRequest => s
  | .classA .. | .classC _ => s

/-- The chosen entry becomes the frame in transmission (R131). -/
def sendRoof (x : RoofItem) (s : State) : State :=
  tellDeparture x
    (s.modRoof fun r => { leaveQueue s x r with tx := some { item := x, seq := frameSeq s x } })

/-- The pick of the roof transmitter, made when it is IDLE and no takeover is GRANTED (R129; log 4). -/
def roofPick (s : State) : State :=
  if s.roof.tx.isSome ∨ granted s then s
  else
    match nextRoof s with
    | none => s
    | some x => sendRoof x s

/-! ## The train pick (8.1, 8.5) -/

/-- A waiting NOTICES-LOST takes in what was dropped since the mark (R166). -/
def addLost (dropped : Nat) (n : Notice) : Notice :=
  match n.data with
  | .noticesLost k => { data := .noticesLost (k + dropped), rep := satSucc 255 n.rep }
  | _ => n

/-- The Notice Queue after a place frees with the overflow mark set (R166). -/
def tellLost (t : Train) : Train :=
  if t.overflow then
    { t with overflow := false, dropped := 0,
             notices := if t.notices.any fun n => n.data.kind = .noticesLost then t.notices.map (addLost t.dropped)
                        else t.notices ++ [{ data := .noticesLost t.dropped, rep := 1 }] }
  else t

/-- The last-sent value of the notice's key (R167). -/
def noteSent (d : NoticeData) (t : Train) : Train :=
  match d with
  | .lineChange new .. => { t with lastLine := some new }
  | .channelFault ch fault .. => { t with lastFault := t.lastFault.set ch (some fault) }
  | _ => t

/-- A notice leaves the Notice Queue for the transmitter with the notice sequence as it stands, which then advances (R157, R166 to R168;
log 49). -/
def sendNotice (n : Notice) (rest : List Notice) (t : Train) : Train :=
  tellLost (noteSent n.data { t with notices := rest, noticeSeq := t.noticeSeq + 1, tx := some (.notice t.noticeSeq n) })

/-- The pick of the train transmitter, made when it is IDLE (R157; log 4). -/
def trainPick (s : State) : State :=
  if s.train.tx.isSome then s
  else
    match s.train.responses with
    | r :: rest => s.modTrain fun t => { t with responses := rest, tx := some (.response r) }
    | [] =>
      match s.train.notices with
      | n :: rest => s.modTrain (sendNotice n rest)
      | [] =>
        match s.fwd.mirror with
        | m :: rest => (s.modFwd fun f => { f with mirror := rest }).modTrain fun t => { t with tx := some (.copy m) }
        | [] => s

/-! ## The end of a reaction -/

/-- The bound on the owed outcomes taken in one reaction (log 6). -/
def owedRounds : Nat := 64

/-- Every owed outcome has been taken; none is kept for a later reaction (R112; log 6). -/
def drain (s : State) : State := { payOwed owedRounds s with owed := [] }

/-- What follows the action of a command and the outcomes it owes, `was` being the state before it: the takeover evaluation (R120), then
the two picks (R129, R157). -/
def follows (was s : State) : State := trainPick (roofPick (takeoverAfter was s))

/-- What follows the action of a command, `was` being the state before it. -/
def settle (was s : State) : State := follows was (drain s)

end Sys2Proof.Machine
end

