-- ==== Sys2Proof/Machine/Orders.lean ====
section
/-! DEFINITION. The orders (R161): the power path (R54 to R56, R70, R73, R75, R76), CLEAR-LOCKOUT (R79, R178), channels (R24, R46, R48,
R162), ice (R85, R98), takeover access (R122), the notice filter (R167) and PART-RESET (R163). -/

namespace Sys2Proof.Machine

/-! ## Power path orders (3.2, 3.6, 3.8) -/

/-- The system a POWER-UP or CHANGEOVER names, where it is in the System Table (R54). -/
def orderedSystem? (s : State) (w : Word) : Option SysId :=
  (numbered? 8 w.toNat).bind fun k => if (sysEntry? s k).isSome then some k else none

/-- A start for k (R56). -/
def startFor (k : SysId) (s : State) : Reply :=
  match collectSelect s k with
  | none => refuse s .noCollector
  | some c => accept (startWith k c s) []

/-- The recognised result is a system id. -/
def resultIsSystem (s : State) : Bool :=
  match s.recog.result with
  | .system _ => true
  | _ => false

/-- CHANGEOVER(k) in NEUTRAL, and POWER-UP(k) of a system not active (R70). -/
def reorderInNeutral (k : SysId) (s : State) : State :=
  let s := s.modCo fun r => { r with ordered := some k }
  if resultIsSystem s then evaluateNeutral s else s

/-- POWER-UP(k) in NEUTRAL with k active (R70). -/
def reclose (k : SysId) (s : State) : State :=
  let s := s.modCo fun r => { r with ordered := some k }
  if resultIsActive s then enterClosing (s.modCo fun r => { r with neutralAnnounced := false })
  else s.modCo fun r => { r with recloseGranted := true }

/-- An order for a system not active, taken in POWERED (R75). -/
def leaveFor (k : SysId) (s : State) : State :=
  enterOpening .neutral (s.modCo fun r => { r with ordered := some k })

/-- An order in one of the other active states (R55). -/
def whileBusy (k : SysId) (s : State) : Reply := if s.co.ordered = some k then accept s [] else refuse s .busy

/-- POWER-UP(k) by state (R55). -/
def powerUpOrder (k : SysId) (s : State) : Reply :=
  match s.co.state with
  | .idle | .coasting => startFor k s
  | .neutral => accept (if s.co.active = some k then reclose k s else reorderInNeutral k s) []
  | .powered => accept (if s.co.active = some k then s else leaveFor k s) []
  | .raising | .recognizing | .switching | .closing | .opening | .lowering => whileBusy k s
  | .lockout => refuse s .lockedOut

/-- CHANGEOVER(k) by state (R55, R75). -/
def changeoverOrder (k : SysId) (s : State) : Reply :=
  match s.co.state with
  | .idle => startFor k s
  | .coasting => accept (s.modCo fun r => { r with ordered := some k }) []
  | .neutral => accept (reorderInNeutral k s) []
  | .powered => accept (if s.co.active = some k then s else leaveFor k s) []
  | .raising | .recognizing | .switching | .closing | .opening | .lowering => whileBusy k s
  | .lockout => refuse s .lockedOut

/-- NEUTRAL-AHEAD by state (R55, R76). -/
def neutralAheadOrder (s : State) : Reply :=
  match s.co.state with
  | .idle | .coasting => accept s []
  | .neutral => accept (s.modCo fun r => { r with neutralAnnounced := true }) []
  | .powered => accept (enterOpening .neutral (s.modCo fun r => { r with neutralAnnounced := true })) []
  | .raising | .recognizing | .switching | .closing | .opening | .lowering => refuse s .busy
  | .lockout => refuse s .lockedOut

/-- SECTION-CLEAR by state (R55, R71). -/
def sectionClearOrder (s : State) : Reply :=
  match s.co.state with
  | .coasting => match s.co.ordered with
    | some k => startFor k s
    | none => refuse s .noCollector
  | .lockout => refuse s .lockedOut
  | .idle | .neutral | .powered | .raising | .recognizing | .switching | .closing | .opening | .lowering =>
    refuse s .refusedState

/-- The part's own queues of the arbiter hold the same (R54). -/
def sameOwnQueues (s t : State) : Bool := s.roof.classA = t.roof.classA ∧ s.roof.classB = t.roof.classB

/-- The state with the grant taken out, in which the effect an order would have can be tried (R161; log 8). -/
def withoutGrant (s : State) : State := s.modTakeover fun t => { t with state := .noTakeover }

/-- Step 3 of R54: while a takeover is GRANTED, an order whose effect would queue a frame is refused with HELD (log 8). -/
def heldOr (order : State → Reply) (s : State) : Reply :=
  if granted s ∧ ¬ sameOwnQueues s (order (withoutGrant s)).state then refuse s .held else order s

/-- POWER-UP and CHANGEOVER: the argument (R182), then R54. -/
def systemOrder (order : SysId → State → Reply) (payload : List Word) (s : State) : Reply :=
  match payload with
  | [] => refuse s .badEntry
  | w :: _ =>
    if s.co.state = .lockout then refuse s .lockedOut
    else
      match orderedSystem? s w with
      | none => refuse s .badEntry
      | some k => heldOr (order k) s

/-- POWER-DOWN (R54, R73). -/
def powerDownOrder (s : State) : Reply := heldOr (fun s => accept (powerDown s) []) s

/-- The channels in RAISING, UP or LOWERING, as a set (R178). -/
def movingSet (s : State) : Word := chanSet (moving s)

/-- Each LOCKED channel with its last fault and its last reported position (R178), from L1 to L4 (log 55). -/
def lockedWords (s : State) : List Word :=
  (List.finRange 4).flatMap fun c =>
    if s.channels[c].state = .locked then
      [word (number c), s.channels[c].lastFault.code, PanPos.code (posOf s c).lastPos]
    else []

/-- CLEAR-LOCKOUT (R79, R178). -/
def clearLockoutOrder (s : State) : Reply :=
  if s.co.state ≠ .lockout then { state := s, result := .refusedState, data := [s.co.state.code] }
  else if (List.finRange 4).any fun c => moving s c then
    { state := s, result := .busy, data := [s.co.state.code, movingSet s] }
  else
    accept (enterIdle (s.modCo fun r => { r with lockoutCause := .noCause }))
      ([s.co.lockoutCause.code, flag s.co.openRep.isSome, BreakerPos.code s.co.lastBreaker] ++ lockedWords s)

/-! ## Channel orders (2.1, 2.4, 2.5, 8.4) -/

/-- The channel is selected by grade g (R46). -/
def gradeSelects (s : State) (g : Nat) (c : Chan) : Bool := raised s c ∧ g ≤ s.channels[c].rank

/-- A graded lowering: the channels without duty COLLECT at once, then the collector by the Power Path Controller (R46). -/
def gradedLowering (g : Nat) (s : State) : State :=
  let chosen := (List.finRange 4).filter fun c => gradeSelects s g c
  let others := chosen.filter fun c => s.channels[c].duty ≠ .collect
  let t := others.foldl (fun t c => lowerByOther c .graded t) s
  if chosen.any fun c => s.channels[c].duty = .collect then gradedCollector t else t

/-- LOWERING-ORDER (R46). -/
def loweringOrderReply (payload : List Word) (s : State) : Reply :=
  match payload with
  | [] => refuse s .badEntry
  | g :: _ =>
    if 1 ≤ g.toNat ∧ g.toNat ≤ 7 then accept (gradedLowering g.toNat s) [chanSet (gradeSelects s g.toNat)]
    else refuse s .badEntry

/-- The channel holds duty COLLECT while the controller is in CLOSING, POWERED or NEUTRAL (R48, R162). -/
def liveCollector (s : State) (c : Chan) : Bool :=
  s.channels[c].duty = .collect ∧ (s.co.state = .closing ∨ s.co.state = .powered ∨ s.co.state = .neutral)

/-- A reset of the channel would enter LOWERING (R48). -/
def resetLowers (s : State) (c : Chan) : Bool :=
  raised s c || (decide (s.channels[c].state = .locked) && ! chanAtRest s c)

/-- What every accepted reset does first: counter and last fault cleared, the node's class A slot removed (R48). -/
def resetCore (c : Chan) (s : State) : State :=
  let s := s.modChan c fun r => { r with counter := 0, lastFault := .noFault }
  match chanNode? s c with
  | none => s
  | some n => clearSlotA n s

/-- A channel becomes DOWN at once, handed on (R43, R45, R48). -/
def becomeDown (c : Chan) (s : State) : State :=
  let old := s.channels[c].state
  coOnChannel c old .down (s.modChan c (restRecord .down none))

/-- The reset by the channel's state (R48). -/
def resetChannel (c : Chan) (s : State) : State :=
  let lowers := resetLowers s c
  let s := resetCore c s
  match s.channels[c].state with
  | .raising | .up => lowerByOther c .reset s
  | .lowering => s.modChan c fun r => { r with cause := some .reset }
  | .cooldown => becomeDown c s
  | .locked => if lowers then coOnChannel c .locked .lowering (enterLowering c .reset s) else becomeDown c s
  | .down => s

/-- The channel that an order names (R182). -/
def channelOrder (act : Chan → State → Reply) (payload : List Word) (s : State) : Reply :=
  match payload with
  | [] => refuse s .badEntry
  | w :: _ =>
    match numbered? 4 w.toNat with
    | none => refuse s .badEntry
    | some c => act c s

/-- CHANNEL-RESET (R48). -/
def channelResetOrder (c : Chan) (s : State) : Reply :=
  if liveCollector s c then refuse s .refusedState
  else if granted s ∧ resetLowers s c then refuse s .held
  else accept (resetChannel c s) []

/-- CHANNEL-LOWER (R162). -/
def channelLowerOrder (c : Chan) (s : State) : Reply :=
  if liveCollector s c then refuse s .refusedState
  else if granted s ∧ raised s c then refuse s .held
  else
    match lowerAnswer s c with
    | .ok => accept (lowerByOther c .order s) []
    | .refused => refuse s .refusedState

/-- The four positions are different (R24). -/
def permutation (m : Vector Pos 4) : Bool := m.toList.Nodup

/-- REMAP (R24, R182). -/
def remapOrder (payload : List Word) (s : State) : Reply :=
  match payload with
  | a :: b :: c :: d :: _ =>
    match numbered? 4 a.toNat, numbered? 4 b.toNat, numbered? 4 c.toNat, numbered? 4 d.toNat with
    | some a, some b, some c, some d =>
      if (List.finRange 4).any fun c => s.channels[c].state ≠ .down then refuse s .refusedState
      else if ¬ permutation #v[a, b, c, d] then refuse s .badEntry
      else accept { s with roleMap := #v[a, b, c, d] } [word (number a), word (number b), word (number c), word (number d)]
    | _, _, _, _ => refuse s .badEntry
  | _ => refuse s .badEntry

/-! ## Ice orders (4.1, 4.5) -/

/-- A run ends, and the scheduler makes its lower request for the channel (R101, R102; log 7). -/
def endRunAndLower (why : EndReason) (s : State) : State :=
  match s.scrape.chan with
  | none => endRun why s
  | some c => lowerByOther c .scrapeEnd (endRun why s)

/-- The pass timer of a season-only zone at a change of the season (R85). -/
def seasonTimer (on : Bool) (r : ZoneRec) : ZoneRec := if r.seasonOnly then restartTimer on r else r

/-- The ice season changes (R85, R101). -/
def setSeason (on : Bool) (s : State) : State :=
  if s.iceSeason = on then s
  else
    let s := { s with iceSeason := on, zones := s.zones.map (seasonTimer on) }
    if on then s else endRunAndLower .season s

/-- ICE-SEASON (R85, R182). -/
def iceSeasonOrder (payload : List Word) (s : State) : Reply :=
  match payload with
  | [] => refuse s .badEntry
  | w :: _ =>
    match onOff? w with
    | none => refuse s .badEntry
    | some on => accept (setSeason on s) []

/-- SCRAPE (R98). -/
def scrapeOrder (s : State) : Reply :=
  if s.scrape.run ≠ .noRun then accept s []
  else if s.co.state ≠ .powered ∨ ¬ s.iceSeason then refuse s .refusedState
  else
    match s.co.active.bind (scrapeSelect s) with
    | none => refuse s .noCollector
    | some c => accept (startRun c .order s) [word (number c)]

/-! ## Orders of the interfaces -/

/-- DEPOT-ACCESS (R122, R182). -/
def depotAccessOrder (payload : List Word) (s : State) : Reply :=
  match payload with
  | [] => refuse s .badEntry
  | w :: _ =>
    match onOff? w with
    | none => refuse s .badEntry
    | some on => accept (s.modTakeover fun t => { t with access := on }) []

/-- The kinds for which "changes only" is accepted (R167). -/
def filterable (k : Fin 19) : Bool := k = NoticeKind.lineChange.index ∨ k = NoticeKind.channelFault.index

/-- NOTICE-FILTER (R167, R182). -/
def noticeFilterOrder (payload : List Word) (s : State) : Reply :=
  match payload with
  | kind :: option :: _ =>
    match noticeKindIndex? kind, onOff? option with
    | some k, some changes =>
      if changes ∧ ¬ filterable k then refuse s .badEntry
      else accept (s.modTrain fun t => { t with filter := t.filter.set k changes }) []
    | _, _ => refuse s .badEntry
  | _ => refuse s .badEntry

/-- PART-RESET: step 1 of R163, or HELD (R121). -/
def partResetOrder (s : State) : Reply :=
  if granted s ∧ (List.finRange 4).any fun c => s.channels[c].state ≠ .down then refuse s .held
  else accept (s.modTrain fun t => { t with resetPending := true }) []

end Sys2Proof.Machine
end

