-- ==== Sys2Proof/Machine/Resets.lean ====
section
/-! DEFINITION. Power-on reset and part reset (R5, R17, R49, R80, R104, R123, R136, R153, R163, R164), and the completions of the two
transmitters (R131, R157). -/

namespace Sys2Proof.Machine

/-- Power-on reset: every block at its power-on values. The takeover request pin and the commands that wait are outside the part
(log 24). -/
def powerOn (s : State) : State :=
  { State.reset with takeover := { State.reset.takeover with request := s.takeover.request }, pending := s.pending }

/-! ## Part reset, block by block (log 31) -/

/-- The arbiter's part reset (R136). -/
def resetArbiter (s : State) : State :=
  s.modRoof fun r =>
    { r with classA := Vector.replicate 63 none, classB := [], classC := [], bypass := 0,
             tx := r.tx.map fun x => { x with fills := false } }

/-- The Train Link Interface's part reset (R164). -/
def resetTrain (s : State) : State :=
  s.modTrain fun t =>
    { t with responses := [], notices := [], overflow := false, dropped := 0, lost := 0, lastLine := none,
             lastFault := Vector.replicate 4 none, silence := some s.settings.silenceTime, silent := false, tx := none,
             resetPending := false }

/-- The recognition block's part reset (R5, R17). -/
def resetRecognition (s : State) : State := s.modRecog fun _ => {}

/-- The channel is bound (R25). -/
def bound (s : State) (c : Chan) : Bool := (assignOf s c).isSome

/-- What a part reset does first to a channel that it does not leave as it is (R49). -/
def resetChanRecord (r : Channel) : Channel := { r with lastFault := .reset, counter := 0, duty := .noDuty, phase := none }

/-- A channel's part reset into LOWERING with cause RESET (R49). -/
def resetIntoLowering (c : Chan) (s : State) : State :=
  let r := s.channels[c]
  faultNotice c .reset .lowering (some .reset) r.counter r.limit (lowerCore c .reset (s.modChan c resetChanRecord))

/-- An unbound channel's part reset out of COOLDOWN or LOCKED (R49). -/
def resetIntoDown (c : Chan) (s : State) : State :=
  let r := s.channels[c]
  faultNotice c .reset .down none r.counter r.limit
    (s.modChan c fun r => { restRecord .down none r with lastFault := .reset })

/-- A channel's part reset (R49). -/
def resetChan (s : State) (c : Chan) : State :=
  match s.channels[c].state with
  | .down => s
  | .raising | .up | .lowering => resetIntoLowering c s
  | .cooldown | .locked => if bound s c then resetIntoLowering c s else resetIntoDown c s

/-- The Pantograph Control block's part reset, in channel-number order (R49). -/
def resetChannels (s : State) : State := (List.finRange 4).foldl resetChan s

/-- The changeover record's part reset (R50, R80). -/
def resetChangeover (s : State) : State :=
  s.modCo fun r => { ({} : Changeover) with lastBreaker := r.lastBreaker, lastSwitch := r.lastSwitch }

/-- A zone's part-reset values (R82, R85, R104). -/
def resetZoneRecord (ice : Bool) (r : ZoneRec) : ZoneRec :=
  restartTimer ice
    { r with state := .idle, owedPasses := 0, due := none, accum := 0, iceRisk := false, forced := false, bypassed := 0,
             lastStart := none, heatOnSerial := none }

/-- HEAT-OFF for a zone that was HEATING (R104). -/
def resetHeatOff (s : State) (z : Zone) : State :=
  if s.zones[z].state = .heating then placeHeatOffUnlessMismatch z s else s

/-- The Heater Scheduler's part reset (R104). -/
def resetScheduler (s : State) : State :=
  let s := (List.finRange 10).foldl resetHeatOff (s.modScrape fun _ => {})
  { s with zones := s.zones.map (resetZoneRecord s.iceSeason), stagger := none }

/-- The Forwarding and Interlock block's part reset (R153). -/
def resetForward (s : State) : State := s.modFwd fun f => { f with mirror := [] }

/-- A node's part reset (R107, R123). -/
def resetNode (r : NodeRec) : NodeRec :=
  { r with presence := .absent, age := 0, ageRuns := false, declRole := none, declClass := none, slot := none }

/-- The Roof Link Interface's part reset, without the end of the sequence (R123). -/
def resetRoster (s : State) : State := { s with nodes := s.nodes.map resetNode, owed := [] }

/-- The end of the part-reset sequence (R115, R120, R123). -/
def endOfReset (s : State) : State :=
  let s := { announceAbsent s with announceRetry := some Config.announceRetryMs }
  if s.takeover.state = .pending then evaluateTakeover s else s

/-- Part reset (R163, R164; log 31). -/
def partReset (s : State) : State :=
  endOfReset (resetRoster (resetForward (resetScheduler (resetChangeover (resetChannels (resetRecognition
    (resetTrain (resetArbiter s))))))))

/-! ## Completions -/

/-- The node of a frame in transmission. -/
def RoofItem.node : RoofItem → Node
  | .classA n _ => n
  | .classB e => e.node
  | .classC e => e.node

/-- The frame is a COMMAND, which advances the node's sequence counter (R116). -/
def RoofItem.isCommand : RoofItem → Bool
  | .classA _ .sustain => false
  | .classA _ .lower | .classA _ .opn => true
  | .classB _ | .classC _ => true

/-- The outstanding slot that a completed frame fills (R117). -/
def RoofTx.outstanding? (x : RoofTx) : Option Outstanding :=
  if x.fills then
    match x.item with
    | .classA .. => none
    | .classB e => some { code := e.cmd.code, seq := x.seq, origin := .part e.cmd e.serial, deadline := Config.ackDeadlineMs }
    | .classC e => some { code := e.code, seq := x.seq, origin := .train e.trainSeq, deadline := Config.ackDeadlineMs }
  else none

/-- The node's record at the completion of a frame to it: steps 1 and 2 of R131. -/
def completeNode (x : RoofTx) (r : NodeRec) : NodeRec :=
  let r := if x.item.isCommand then { r with seq := r.seq + 1 } else r
  match x.outstanding? with
  | none => r
  | some o => { r with slot := some o }

/-- A PENDING takeover at the completion of the frame in transmission (R120, R131). -/
def completeTakeover (s : State) : State :=
  if s.takeover.state = .pending then
    (if grantConditions s then grant s else s.modTakeover fun t => { t with state := .noTakeover })
  else s

/-- The roof transmitter completes a frame (R131). -/
def roofComplete (s : State) : State :=
  match s.roof.tx with
  | none => s
  | some x =>
    completeTakeover ((s.modNode x.item.node (completeNode x)).modRoof fun r => { r with tx := none })

/-- The frame is the OK of a PART-RESET (R163). -/
def isResetOk : TrainFrame → Bool
  | .response r => r.code = 30 ∧ r.result = .ok
  | .notice .. => false
  | .copy _ => false

/-- The train transmitter completes a frame; the OK of a pending PART-RESET brings the reset (R157, R163). -/
def trainComplete (s : State) : State :=
  match s.train.tx with
  | none => s
  | some x =>
    let s := s.modTrain fun t => { t with tx := none }
    if isResetOk x ∧ s.train.resetPending then partReset s else s

/-! ## The takeover pin (R120 to R122) -/

/-- The request input is asserted (R120). -/
def requestAsserted (s : State) : State := s.modTakeover fun t => { t with request := true }

/-- The release of a GRANTED takeover: the change of the grant is handed to the Heater Scheduler (R88), the arbiter picks at once from
what is queued (R135), and then the ANNOUNCE-REQUESTs are placed (R115, R122). -/
def releaseGrant (s : State) : State :=
  announceAbsent
    (roofPick (gateChange (gateOpen s) (s.modTakeover fun t => { t with state := .noTakeover, held := false })))

/-- The request input is deasserted (R122). -/
def requestDeasserted (s : State) : State :=
  let s := s.modTakeover fun t => { t with request := false }
  match s.takeover.state with
  | .granted => releaseGrant s
  | .pending => s.modTakeover fun t => { t with state := .noTakeover }
  | .noTakeover => s

end Sys2Proof.Machine
end

