-- ==== Sys2Proof/Machine/Timers.lean ====
section
/-! DEFINITION. The part's timers: what each expiry does while its timer runs (log 3), and the clock that runs when no command waits
(log 2). -/

namespace Sys2Proof.Machine

/-! ## Expiries -/

/-- The sample timeout (R4). -/
def expireSample (s : State) : State := if s.recog.sampleTimeout.isSome then sampleTimeoutExpired s else s

/-- The channel's phase timer runs as the kind. -/
def chanPhase (s : State) (c : Chan) (k : ChanTimer) : Bool := (s.channels[c].phase.map Prod.fst) = some k

/-- The raise window (R32). -/
def expireRaiseWindow (c : Chan) (s : State) : State :=
  if s.channels[c].state = .raising ∧ chanPhase s c .raiseWindow then chanFault c .raiseTimeout s else s

/-- The lower window (R42). -/
def expireLowerWindow (c : Chan) (s : State) : State :=
  if s.channels[c].state = .lowering ∧ chanPhase s c .lowerWindow then lowerWindowExpired c s else s

/-- The LOWER repetition (R40). -/
def expireLowerRep (c : Chan) (s : State) : State :=
  if s.channels[c].state = .lowering ∧ s.channels[c].lowerRep.isSome then
    placeAChan c .lower (s.modChan c fun r => { r with lowerRep := some Config.lowerRepeatMs })
  else s

/-- The cooldown (R43). -/
def expireCooldown (c : Chan) (s : State) : State :=
  if s.channels[c].state = .cooldown ∧ chanPhase s c .cooldown then becomeDown c s else s

/-- A channel's sustain timer (R132). -/
def expireChanSustain (c : Chan) (s : State) : State :=
  if raised s c ∧ s.channels[c].sustain.isSome then
    placeAChan c .sustain (s.modChan c fun r => { r with sustain := some Config.sustainMs })
  else s

/-- The breaker sustain timer (R133). -/
def expireBreakerSustain (s : State) : State :=
  if s.co.sustain.isSome then placeABreaker .sustain (s.modCo fun r => { r with sustain := some Config.sustainMs }) else s

/-- The open repetition (R51, R78). -/
def expireOpenRep (s : State) : State := if s.co.openRep.isSome then openRepOn s else s

/-- The controller is in the state and its phase timer runs as the kind. -/
def coPhase (s : State) (st : CoState) (k : CoTimer) : Bool := s.co.state = st ∧ (s.co.phase.map Prod.fst) = some k

/-- The recognition deadline (R59). -/
def expireRecognition (s : State) : State :=
  if coPhase s .recognizing .recognitionDeadline then
    queueNotice (.recognitionTimeout s.co.active s.recog.result) (enterCoLowering .idle s)
  else s

/-- The switch window (R60). -/
def expireSwitchWindow (s : State) : State :=
  if coPhase s .switching .switchWindow then enterLockout .switchFail s else s

/-- The settle interval (R60). -/
def expireSettle (s : State) : State := if coPhase s .switching .settleInterval then enterClosing s else s

/-- The close window (R63). -/
def expireCloseWindow (s : State) : State :=
  if coPhase s .closing .closeWindow then enterLockout .breakerCloseFail s else s

/-- The open window (R67). -/
def expireOpenWindow (s : State) : State :=
  if coPhase s .opening .openWindow then enterLockout .breakerOpenFail s else s

/-- The neutral deadline (R68). -/
def expireNeutral (s : State) : State :=
  if coPhase s .neutral .neutralDeadline then enterCoLowering (if orderedPending s then .coasting else .idle) s else s

/-- The trip quiet timer (R66). -/
def expireTripQuiet (s : State) : State :=
  if s.co.tripQuiet.isSome then s.modCo fun r => { r with trips := 0, tripQuiet := none } else s

/-- A zone's pass timer (R86). -/
def expirePassTimer (z : Zone) (s : State) : State := if s.zones[z].passTimer.isSome then passDue z s else s

/-- The stagger timer (R91). -/
def expireStagger (s : State) : State := if s.stagger.isSome then startDecision { s with stagger := none } else s

/-- A pass is complete (R95). -/
def expirePass (z : Zone) (s : State) : State := if s.zones[z].state = .heating then passComplete z s else s

/-- The scrape timer (R101). -/
def expireScrape (s : State) : State := if s.scrape.timer.isSome then endRunAndLower .duration s else s

/-- The announce retry timer (R115). -/
def expireAnnounce (s : State) : State :=
  if s.announceRetry.isSome then announceAbsent { s with announceRetry := some Config.announceRetryMs } else s

/-- The train-link silence timer (R169, R170). -/
def expireSilence (s : State) : State :=
  match s.train.silence with
  | none => s
  | some _ =>
    let s := s.modTrain fun t => { t with silence := none, silent := true }
    powerDown (queueNotice (.trainSilence s.settings.silenceTime s.co.state) s)

/-! ## The clock (log 2) -/

/-- A timer has run out. -/
def isDue (t : Option Nat) : Bool := t = some 0

/-- The expiry a changeover phase timer of a kind brings. -/
def CoTimer.expiry : CoTimer → Instr
  | .recognitionDeadline => .recognitionDeadlineExpiry
  | .switchWindow => .switchWindowExpiry
  | .settleInterval => .settleIntervalExpiry
  | .closeWindow => .closeWindowExpiry
  | .openWindow => .openWindowExpiry
  | .neutralDeadline => .neutralDeadlineExpiry

/-- The expiry a channel phase timer of a kind brings. -/
def ChanTimer.expiry (c : Chan) : ChanTimer → Instr
  | .raiseWindow => .raiseWindowExpiry c
  | .lowerWindow => .lowerWindowExpiry c
  | .cooldown => .cooldownExpiry c

/-- A phase timer that has run out. -/
def phaseDue {α : Type} (p : Option (α × Nat)) : Option α :=
  match p with
  | some (k, 0) => some k
  | _ => none

/-- A pass has its full heat (R95). -/
def passFull (r : ZoneRec) : Bool := r.state = .heating ∧ r.duration * 1000 ≤ r.accum

/-- The report age has passed the silence limit (R111). -/
def silenceDue (r : NodeRec) : Bool := supervised r ∧ 3 * r.period < r.age

/-- What is due in one channel. -/
def dueOfChan (s : State) (c : Chan) : List Instr :=
  let r := s.channels[c]
  (match phaseDue r.phase with | some k => [k.expiry c] | none => [])
  ++ (if isDue r.lowerRep then [.lowerRepetition c] else []) ++ (if isDue r.sustain then [.channelSustainTimerExpiry c] else [])

/-- What is due in the changeover record. -/
def dueOfCo (r : Changeover) : List Instr :=
  (match phaseDue r.phase with | some k => [k.expiry] | none => [])
  ++ (if isDue r.sustain then [.breakerSustainTimerExpiry] else []) ++ (if isDue r.openRep then [.openRepetition] else [])
  ++ (if isDue r.tripQuiet then [.tripQuietTimerExpiry] else [])

/-- What is due in one zone. -/
def dueOfZone (s : State) (z : Zone) : List Instr :=
  (if passFull s.zones[z] then [.passCompletion z] else []) ++ (if isDue s.zones[z].passTimer then [.passTimerExpiry z] else [])

/-- What is due at one node. -/
def dueOfNode (s : State) (n : Node) : List Instr :=
  (match s.nodes[n].slot with | some o => if o.deadline = 0 then [.ackDeadlineExpiry n] else [] | none => [])
  ++ (if silenceDue s.nodes[n] then [.nodeSilence n] else [])

/-- Everything that is due at this moment, in the order in which the model takes it (log 2). -/
def dueNow (s : State) : List Instr :=
  (if isDue s.recog.sampleTimeout then [.sampleTimeout] else [])
  ++ (List.finRange 4).flatMap (dueOfChan s) ++ dueOfCo s.co ++ (List.finRange 10).flatMap (dueOfZone s)
  ++ (if isDue s.stagger then [.staggerTimerExpiry] else [])
  ++ (if isDue s.scrape.timer then [.scrapeTimerExpiry] else [])
  ++ (List.finRange 63).flatMap (dueOfNode s)
  ++ (if isDue s.announceRetry then [.announceRetryTimerExpiry] else [])
  ++ (if isDue s.train.silence then [.trainLinkSilenceExpiry] else [])

/-- A running timer counts one millisecond down. -/
def tick (t : Option Nat) : Option Nat := t.map (· - 1)

/-- A running phase timer counts one millisecond down. -/
def tickPhase {α : Type} (p : Option (α × Nat)) : Option (α × Nat) := p.map fun x => (x.1, x.2 - 1)

/-- A channel's timers. -/
def tickChan (r : Channel) : Channel :=
  { r with phase := tickPhase r.phase, sustain := tick r.sustain, lowerRep := tick r.lowerRep }

/-- The changeover record's timers. -/
def tickCo (r : Changeover) : Changeover :=
  { r with phase := tickPhase r.phase, sustain := tick r.sustain, openRep := tick r.openRep, tripQuiet := tick r.tripQuiet }

/-- A zone's pass timer, and its accumulator while HEATING (R85, R95). -/
def tickZone (r : ZoneRec) : ZoneRec :=
  { r with passTimer := tick r.passTimer,
           accum := if r.state = .heating then min (r.duration * 1000) (r.accum + 1) else r.accum }

/-- A node's report age and ACK deadline (R107, R117). -/
def tickNode (r : NodeRec) : NodeRec :=
  { r with age := if r.ageRuns then r.age + 1 else r.age,
           slot := r.slot.map fun o => { o with deadline := o.deadline - 1 } }

/-- One millisecond passes (log 2). -/
def advance (s : State) : State :=
  { s with now := s.now + 1,
           recog := { s.recog with sampleTimeout := tick s.recog.sampleTimeout },
           channels := s.channels.map tickChan, co := tickCo s.co, zones := s.zones.map tickZone, stagger := tick s.stagger,
           scrape := { s.scrape with timer := tick s.scrape.timer }, nodes := s.nodes.map tickNode,
           announceRetry := tick s.announceRetry,
           train := { s.train with silence := tick s.train.silence } }

end Sys2Proof.Machine
end

