-- ==== Sys2Proof/Machine/Frames.lean ====
section
/-! DEFINITION. Segment frames (11.1, R180 to R182): the check word, the judging of a received frame, the command that a received frame
makes, and the frames the part sends (R131, R157). -/

namespace Sys2Proof.Machine

/-! ## The check word (R180) -/

/-- One bit enters the check register: generator 8005 in hexadecimal (R180). -/
def crcBit (reg : Word) (b : Bool) : Word :=
  let shifted := reg <<< 1
  if reg.msb ≠ b then shifted ^^^ 0x8005 else shifted

/-- The bits of a word, most significant first. -/
def bitsOf (w : Word) : List Bool := (List.finRange 16).map fun i => w.getLsbD (15 - i.val)

/-- A word enters the check register. -/
def crcWord (reg w : Word) : Word := (bitsOf w).foldl crcBit reg

/-- The check word of the words before it (R180). -/
def checkWord (ws : List Word) : Word := ws.foldl crcWord 0xFFFF

/-! ## Frame classes and fields (11.1) -/

/-- The frame classes of 11.1. -/
inductive FrameClass where
  | command | ack | report | sample | sustain | management | response | notice
  deriving DecidableEq, Repr

def FrameClass.code : FrameClass → BitVec 4
  | .command => 1 | .ack => 2 | .report => 3 | .sample => 4 | .sustain => 5 | .management => 6 | .response => 7 | .notice => 8

def frameClass? (b : BitVec 4) : Option FrameClass :=
  match b.toNat with
  | 1 => some .command
  | 2 => some .ack
  | 3 => some .report
  | 4 => some .sample
  | 5 => some .sustain
  | 6 => some .management
  | 7 => some .response
  | 8 => some .notice
  | _ => none

/-- A segment frame's fields. -/
structure Frame where
  dest : BitVec 6
  src : BitVec 6
  cls : FrameClass
  seq : Byte
  code : Byte
  payload : List Word
  deriving DecidableEq, Repr

/-- The length field of a payload (11.1); a payload of more than 30 words has no stated one (log 12). -/
def lengthField (payload : List Word) : BitVec 5 :=
  if payload.length ≤ 30 then BitVec.ofNat 5 payload.length else Config.overlongLength payload.length

/-- The header and payload words of a frame (11.1). -/
def Frame.body (f : Frame) : List Word :=
  (f.dest ++ f.src ++ f.cls.code) :: (f.seq ++ f.code) :: (0#11 ++ lengthField f.payload) :: f.payload

/-- The words of a frame, check word last (11.1). -/
def Frame.words (f : Frame) : List Word := f.body ++ [checkWord f.body]

/-! ## Reception (R180) -/

/-- What a received frame is: a failure of one kind, or its fields (R180). -/
inductive Judged where
  | bad (k : FrameFailure)
  | good (f : Frame)
  deriving DecidableEq, Repr

/-- The fields of a frame of header words and payload, where its class is one. -/
def fields? (w0 w1 : Word) (payload : List Word) : Option Frame :=
  (frameClass? (w0.extractLsb' 0 4)).map fun c =>
    { dest := w0.extractLsb' 10 6, src := w0.extractLsb' 4 6, cls := c, seq := w1.extractLsb' 8 8, code := w1.extractLsb' 0 8,
      payload := payload }

/-- The test on length and class, once the check word agrees (R180). -/
def judgeBody : List Word → Judged
  | w0 :: w1 :: w2 :: payload =>
    if (w2.extractLsb' 0 5).toNat ≠ payload.length ∨ (w2.extractLsb' 0 5).toNat = 31 then .bad .length
    else
      match fields? w0 w1 payload with
      | some f => .good f
      | none => .bad .unknownClass
  | _ => .bad .check

/-- A received frame is judged on CHECK, then LENGTH, then CLASS (R180). -/
def judgeFrame (ws : List Word) : Judged :=
  if ws.length < 4 ∨ ws.getLast? ≠ some (checkWord ws.dropLast) then .bad .check else judgeBody ws.dropLast

/-- The node of an address field: 1 to 63. -/
def nodeOf (a : BitVec 6) : Option Node := numbered? 63 a.toNat

/-- The address field of a node. -/
def addressOf (n : Node) : BitVec 6 := BitVec.ofNat 6 (number n)

/-! ## The roof link (R105, R181) -/

/-- The command that a REPORT makes (R181). -/
def reportCommand (n : Node) (f : Frame) : Instr :=
  match report? f.code f.payload with
  | some (.contact ..) => .contact n f.seq f.payload
  | some (.breaker _) => .breakerState n f.seq f.payload
  | some (.switch _) => .switchState n f.seq f.payload
  | some (.contactor _) => .contactorState n f.seq f.payload
  | some (.announce ..) => .announce n f.seq f.payload
  | none => .unknownReport n f.seq f.code f.payload

/-- The command that a valid roof frame makes (R105). -/
def roofCommand (f : Frame) : Instr :=
  if f.dest ≠ 0 then .roofFrameIgnored
  else
    match nodeOf f.src with
    | none => .roofFrameIgnored
    | some n =>
      match f.cls with
      | .report => reportCommand n f
      | .sample => .sample n f.seq f.payload
      | .ack => .ack n f.seq f.code f.payload
      | .command | .sustain | .management | .response | .notice => .roofFrameIgnored

/-- The command that the words received on the up pair make (R105, R180). -/
def roofReceive (ws : List Word) : Instr :=
  match judgeFrame ws with
  | .bad k => .roofFrameCheckFailure k
  | .good f => roofCommand f

/-! ## The train link (R154, 11.3) -/

/-- The command of a LOAD-ENTRY: by its table word (11.3, R182). -/
def loadCommand (seq : Byte) (payload : List Word) : Instr :=
  match payload with
  | [] => .unknownRequest seq 2 []
  | t :: entry =>
    match table? t with
    | some .system => .loadEntrySystem seq entry
    | some .window => .loadEntryWindow seq entry
    | some .interlock => .loadEntryInterlock seq entry
    | some .node => .loadEntryNode seq entry
    | some .position => .loadEntryPosition seq entry
    | some .zone => .loadEntryZone seq entry
    | some .config => .loadEntryConfig seq entry
    | none => .unknownRequest seq 2 (t :: entry)

/-- The command of a CLEAR-ENTRY: by its table word (11.3, R182). -/
def clearCommand (seq : Byte) (payload : List Word) : Instr :=
  match payload with
  | [] => .unknownRequest seq 4 []
  | t :: key =>
    match table? t with
    | some .system => .clearEntrySystem seq key
    | some .window => .clearEntryWindow seq key
    | some .interlock => .clearEntryInterlock seq key
    | some .node => .clearEntryNode seq key
    | some .position => .clearEntryPosition seq key
    | some .zone => .clearEntryZone seq key
    | some .config => .clearEntryConfig seq key
    | none => .unknownRequest seq 4 (t :: key)

/-- The command of a MANAGEMENT frame for the part: by its code (11.3). -/
def requestCommand (f : Frame) : Instr :=
  match f.code.toNat with
  | 1 => .readStatus f.seq f.payload
  | 2 => loadCommand f.seq f.payload
  | 3 => .readEntry f.seq f.payload
  | 4 => clearCommand f.seq f.payload
  | 16 => .powerUp f.seq f.payload
  | 17 => .powerDown f.seq f.payload
  | 18 => .changeover f.seq f.payload
  | 19 => .neutralAhead f.seq f.payload
  | 20 => .sectionClear f.seq f.payload
  | 21 => .clearLockout f.seq f.payload
  | 22 => .loweringOrder f.seq f.payload
  | 23 => .channelReset f.seq f.payload
  | 24 => .channelLower f.seq f.payload
  | 25 => .remap f.seq f.payload
  | 26 => .iceSeason f.seq f.payload
  | 27 => .scrape f.seq f.payload
  | 28 => .depotAccess f.seq f.payload
  | 29 => .noticeFilter f.seq f.payload
  | 30 => .partReset f.seq f.payload
  | _ => .unknownRequest f.seq f.code f.payload

/-- The command that a valid train frame makes (R154). -/
def trainCommand (f : Frame) : Instr :=
  match f.cls, nodeOf f.dest with
  | .management, none => requestCommand f
  | .command, some n => .nodeCommand n f.seq f.code f.payload
  | _, _ => .trainFrameIgnored

/-- The command that the words received on the train link make (R154, R180). -/
def trainReceive (ws : List Word) : Instr :=
  match judgeFrame ws with
  | .bad k => .trainFrameCheckFailure k
  | .good f => trainCommand f

/-! ## The frames the part sends -/

/-- The fields of a roof frame in transmission (R131). -/
def RoofTx.frame (x : RoofTx) : Frame :=
  match x.item with
  | .classA n .sustain => { dest := addressOf n, src := 0, cls := .sustain, seq := 0, code := 0, payload := [] }
  | .classA n f => { dest := addressOf n, src := 0, cls := .command, seq := x.seq, code := f.code, payload := [] }
  | .classB e => { dest := addressOf e.node, src := 0, cls := .command, seq := x.seq, code := e.cmd.code, payload := e.cmd.payload }
  | .classC e => { dest := addressOf e.node, src := 0, cls := .command, seq := x.seq, code := e.code, payload := e.payload }

/-- The class of a mirrored copy's frame (R151, R157). -/
def MirrorClass.frameClass : MirrorClass → FrameClass
  | .report => .report | .ack => .ack

/-- The code of a notice's frame: its kind's value (11.3, 11.5). -/
def NoticeKind.code (k : NoticeKind) : Byte := BitVec.ofNat 8 (number k.index)

/-- The fields of a train frame in transmission (R157, 11.3); their destination is a free value (log 48). -/
def TrainFrame.frame : TrainFrame → Frame
  | .response r =>
    { dest := Config.trainDestination, src := 0, cls := .response, seq := r.seq, code := r.code, payload := r.result.code :: r.data }
  | .notice q n =>
    { dest := Config.trainDestination, src := 0, cls := .notice, seq := q, code := n.data.kind.code,
      payload := n.data.subject.code :: word n.rep :: n.data.words }
  | .copy m =>
    { dest := Config.trainDestination, src := addressOf m.src, cls := m.cls.frameClass, seq := m.seq, code := m.code,
      payload := m.payload }

/-- The words on the down pair while the transmitter is TRANSMITTING (R131). -/
def roofSends (s : State) : Option (List Word) := s.roof.tx.map fun x => x.frame.words

/-- The words on the train link while its transmitter is TRANSMITTING (R157). -/
def trainSends (s : State) : Option (List Word) := s.train.tx.map fun x => x.frame.words

end Sys2Proof.Machine
end

