-- ==== Sys2Proof/Machine/ReceptionCommands.lean ====
section
/-! DEFINITION. The meanings of the commands of reception: roof frames (05) and train frames (07, 08). -/

namespace Sys2Proof.Machine

/-- The outcome of a command whose action is `act`: the action, and what follows it (Settle.lean). -/
def react (act : State → State) (s : State) : Host.Outcome State Fault Refusal := .next (settle s (act s))

/-- ROOF_FRAME_CHECK_FAILURE (R105). -/
def execRoofFrameCheckFailure (kind : FrameFailure) (s : State) : Host.Outcome State Fault Refusal :=
  react (roofCheckFailed kind) s

/-- ROOF_FRAME_IGNORED (R105): no effect. -/
def execRoofFrameIgnored (s : State) : Host.Outcome State Fault Refusal :=
  .next s

/-- SAMPLE (R1, R106). -/
def execSample (src : Node) (seq : Byte) (payload : List Word) (s : State) : Host.Outcome State Fault Refusal :=
  react (takeRoofFrame src seq (.sample payload)) s

/-- CONTACT (R25, R106): a REPORT of code 1 (11.2). -/
def execContact (src : Node) (seq : Byte) (payload : List Word) (s : State) : Host.Outcome State Fault Refusal :=
  react (takeReport src seq 1 payload) s

/-- BREAKER_STATE (R51, R106): a REPORT of code 2 (11.2). -/
def execBreakerState (src : Node) (seq : Byte) (payload : List Word) (s : State) : Host.Outcome State Fault Refusal :=
  react (takeReport src seq 2 payload) s

/-- SWITCH_STATE (R51, R106): a REPORT of code 3 (11.2). -/
def execSwitchState (src : Node) (seq : Byte) (payload : List Word) (s : State) : Host.Outcome State Fault Refusal :=
  react (takeReport src seq 3 payload) s

/-- CONTACTOR_STATE (R84, R106): a REPORT of code 4 (11.2). -/
def execContactorState (src : Node) (seq : Byte) (payload : List Word) (s : State) : Host.Outcome State Fault Refusal :=
  react (takeReport src seq 4 payload) s

/-- ANNOUNCE (R106, R110): a REPORT of code 5 (11.2). -/
def execAnnounce (src : Node) (seq : Byte) (payload : List Word) (s : State) : Host.Outcome State Fault Refusal :=
  react (takeReport src seq 5 payload) s

/-- ACK (R106, R117). -/
def execAck (src : Node) (seq code : Byte) (payload : List Word) (s : State) : Host.Outcome State Fault Refusal :=
  react (takeRoofFrame src seq (.ack code payload)) s

/-- UNKNOWN_REPORT (R106, R181). -/
def execUnknownReport (src : Node) (seq code : Byte) (payload : List Word) (s : State) : Host.Outcome State Fault Refusal :=
  react (takeRoofFrame src seq (.report code payload none)) s

/-- TRAIN_FRAME_CHECK_FAILURE (R154). -/
def execTrainFrameCheckFailure (kind : FrameFailure) (s : State) : Host.Outcome State Fault Refusal :=
  react (trainCheckFailed kind) s

/-- TRAIN_FRAME_IGNORED (R154): the silence timer restarts, and nothing else happens. -/
def execTrainFrameIgnored (s : State) : Host.Outcome State Fault Refusal :=
  .next (trainFrameTaken s)

/-- UNKNOWN_REQUEST (R155; log 29). -/
def execUnknownRequest (seq code : Byte) (_payload : List Word) (s : State) : Host.Outcome State Fault Refusal :=
  react (manage seq code (unknownReply code)) s

/-- NODE_COMMAND (R137). -/
def execNodeCommand (dest : Node) (seq code : Byte) (payload : List Word) (s : State) : Host.Outcome State Fault Refusal :=
  react (nodeCommandFrame dest seq code payload) s

end Sys2Proof.Machine
end

