-- ==== Sys2Proof/Machine/TableCommands.lean ====
section
/-! DEFINITION. The meanings of the reads, and of the loads and clears of the tables and the configuration set (08). -/

namespace Sys2Proof.Machine

/-- READ_STATUS (R158). -/
def execReadStatus (seq : Byte) (payload : List Word) (s : State) : Host.Outcome State Fault Refusal :=
  react (manage seq 1 (readRecord payload)) s

/-- READ_ENTRY (R159). -/
def execReadEntry (seq : Byte) (payload : List Word) (s : State) : Host.Outcome State Fault Refusal :=
  react (manage seq 3 (readTable payload)) s

/-- LOAD_ENTRY_SYSTEM (R13). -/
def execLoadEntrySystem (seq : Byte) (entry : List Word) (s : State) : Host.Outcome State Fault Refusal :=
  react (manage seq 2 (loadSystem entry)) s

/-- CLEAR_ENTRY_SYSTEM (R14). -/
def execClearEntrySystem (seq : Byte) (key : List Word) (s : State) : Host.Outcome State Fault Refusal :=
  react (manage seq 4 (clearSystem key)) s

/-- LOAD_ENTRY_POSITION (R23). -/
def execLoadEntryPosition (seq : Byte) (entry : List Word) (s : State) : Host.Outcome State Fault Refusal :=
  react (manage seq 2 (loadPosition entry)) s

/-- CLEAR_ENTRY_POSITION (R23). -/
def execClearEntryPosition (seq : Byte) (key : List Word) (s : State) : Host.Outcome State Fault Refusal :=
  react (manage seq 4 (clearPosition key)) s

/-- LOAD_ENTRY_ZONE (R83). -/
def execLoadEntryZone (seq : Byte) (entry : List Word) (s : State) : Host.Outcome State Fault Refusal :=
  react (manage seq 2 (loadZone entry)) s

/-- CLEAR_ENTRY_ZONE (R83). -/
def execClearEntryZone (seq : Byte) (key : List Word) (s : State) : Host.Outcome State Fault Refusal :=
  react (manage seq 4 (clearZone key)) s

/-- LOAD_ENTRY_NODE (R108, R109). -/
def execLoadEntryNode (seq : Byte) (entry : List Word) (s : State) : Host.Outcome State Fault Refusal :=
  react (manage seq 2 (loadNode entry)) s

/-- CLEAR_ENTRY_NODE (R108). -/
def execClearEntryNode (seq : Byte) (key : List Word) (s : State) : Host.Outcome State Fault Refusal :=
  react (manage seq 4 (clearNode key)) s

/-- LOAD_ENTRY_WINDOW (R139). -/
def execLoadEntryWindow (seq : Byte) (entry : List Word) (s : State) : Host.Outcome State Fault Refusal :=
  react (manage seq 2 (loadWindow entry)) s

/-- CLEAR_ENTRY_WINDOW (R140). -/
def execClearEntryWindow (seq : Byte) (key : List Word) (s : State) : Host.Outcome State Fault Refusal :=
  react (manage seq 4 (clearWindow key)) s

/-- LOAD_ENTRY_INTERLOCK (R148). -/
def execLoadEntryInterlock (seq : Byte) (entry : List Word) (s : State) : Host.Outcome State Fault Refusal :=
  react (manage seq 2 (loadInterlock entry)) s

/-- CLEAR_ENTRY_INTERLOCK (R148). -/
def execClearEntryInterlock (seq : Byte) (key : List Word) (s : State) : Host.Outcome State Fault Refusal :=
  react (manage seq 4 (clearInterlock key)) s

/-- LOAD_ENTRY_CONFIG (R160). -/
def execLoadEntryConfig (seq : Byte) (entry : List Word) (s : State) : Host.Outcome State Fault Refusal :=
  react (manage seq 2 (loadConfig entry)) s

/-- CLEAR_ENTRY_CONFIG (R160). -/
def execClearEntryConfig (seq : Byte) (key : List Word) (s : State) : Host.Outcome State Fault Refusal :=
  react (manage seq 4 (clearConfig key)) s

end Sys2Proof.Machine
end

