-- ==== Sys2Proof/Machine/OrderCommands.lean ====
section
/-! DEFINITION. The meanings of the orders (R161). -/

namespace Sys2Proof.Machine

/-- POWER_UP (R54, R55). -/
def execPowerUp (seq : Byte) (payload : List Word) (s : State) : Host.Outcome State Fault Refusal :=
  react (manage seq 16 (systemOrder powerUpOrder payload)) s

/-- POWER_DOWN (R54, R73); words beyond the arguments are ignored (R182). -/
def execPowerDown (seq : Byte) (_payload : List Word) (s : State) : Host.Outcome State Fault Refusal :=
  react (manage seq 17 powerDownOrder) s

/-- CHANGEOVER (R54, R75). -/
def execChangeover (seq : Byte) (payload : List Word) (s : State) : Host.Outcome State Fault Refusal :=
  react (manage seq 18 (systemOrder changeoverOrder payload)) s

/-- NEUTRAL_AHEAD (R54, R76); words beyond the arguments are ignored (R182). -/
def execNeutralAhead (seq : Byte) (_payload : List Word) (s : State) : Host.Outcome State Fault Refusal :=
  react (manage seq 19 (heldOr neutralAheadOrder)) s

/-- SECTION_CLEAR (R54, R55); words beyond the arguments are ignored (R182). -/
def execSectionClear (seq : Byte) (_payload : List Word) (s : State) : Host.Outcome State Fault Refusal :=
  react (manage seq 20 (heldOr sectionClearOrder)) s

/-- CLEAR_LOCKOUT (R79, R178); words beyond the arguments are ignored (R182). -/
def execClearLockout (seq : Byte) (_payload : List Word) (s : State) : Host.Outcome State Fault Refusal :=
  react (manage seq 21 clearLockoutOrder) s

/-- LOWERING_ORDER (R46). -/
def execLoweringOrder (seq : Byte) (payload : List Word) (s : State) : Host.Outcome State Fault Refusal :=
  react (manage seq 22 (loweringOrderReply payload)) s

/-- CHANNEL_RESET (R48). -/
def execChannelReset (seq : Byte) (payload : List Word) (s : State) : Host.Outcome State Fault Refusal :=
  react (manage seq 23 (channelOrder channelResetOrder payload)) s

/-- CHANNEL_LOWER (R162). -/
def execChannelLower (seq : Byte) (payload : List Word) (s : State) : Host.Outcome State Fault Refusal :=
  react (manage seq 24 (channelOrder channelLowerOrder payload)) s

/-- REMAP (R24). -/
def execRemap (seq : Byte) (payload : List Word) (s : State) : Host.Outcome State Fault Refusal :=
  react (manage seq 25 (remapOrder payload)) s

/-- ICE_SEASON (R85). -/
def execIceSeason (seq : Byte) (payload : List Word) (s : State) : Host.Outcome State Fault Refusal :=
  react (manage seq 26 (iceSeasonOrder payload)) s

/-- SCRAPE (R98); words beyond the arguments are ignored (R182). -/
def execScrape (seq : Byte) (_payload : List Word) (s : State) : Host.Outcome State Fault Refusal :=
  react (manage seq 27 scrapeOrder) s

/-- DEPOT_ACCESS (R122). -/
def execDepotAccess (seq : Byte) (payload : List Word) (s : State) : Host.Outcome State Fault Refusal :=
  react (manage seq 28 (depotAccessOrder payload)) s

/-- NOTICE_FILTER (R167). -/
def execNoticeFilter (seq : Byte) (payload : List Word) (s : State) : Host.Outcome State Fault Refusal :=
  react (manage seq 29 (noticeFilterOrder payload)) s

/-- PART_RESET (R163); words beyond the arguments are ignored (R182). -/
def execPartReset (seq : Byte) (_payload : List Word) (s : State) : Host.Outcome State Fault Refusal :=
  react (manage seq 30 partResetOrder) s

end Sys2Proof.Machine
end

