-- ==== Sys2Proof/Machine/PinCommands.lean ====
section
/-! DEFINITION. The meanings of the reset, the takeover pin and the transmitters' completions. -/

namespace Sys2Proof.Machine

/-- POWER_ON_RESET (R123 and the reset tables of each block). -/
def execPowerOnReset (s : State) : Host.Outcome State Fault Refusal :=
  .next (powerOn s)

/-- TAKEOVER_REQUEST_ASSERTED (R120). -/
def execTakeoverRequestAsserted (s : State) : Host.Outcome State Fault Refusal :=
  react requestAsserted s

/-- TAKEOVER_REQUEST_DEASSERTED (R122). -/
def execTakeoverRequestDeasserted (s : State) : Host.Outcome State Fault Refusal :=
  react requestDeasserted s

/-- ROOF_TRANSMISSION_COMPLETE (R131). -/
def execRoofTransmissionComplete (s : State) : Host.Outcome State Fault Refusal :=
  react roofComplete s

/-- TRAIN_TRANSMISSION_COMPLETE (R157, R163). -/
def execTrainTransmissionComplete (s : State) : Host.Outcome State Fault Refusal :=
  react trainComplete s

end Sys2Proof.Machine
end

