-- ==== Sys2Proof/Machine/TimerCommands.lean ====
section
/-! DEFINITION. The meanings of the expiries of the part's timers. -/

namespace Sys2Proof.Machine

/-- SAMPLE_TIMEOUT (R4). -/
def execSampleTimeout (s : State) : Host.Outcome State Fault Refusal :=
  react expireSample s

/-- RAISE_WINDOW_EXPIRY (R32). -/
def execRaiseWindowExpiry (ch : Chan) (s : State) : Host.Outcome State Fault Refusal :=
  react (expireRaiseWindow ch) s

/-- LOWER_WINDOW_EXPIRY (R42). -/
def execLowerWindowExpiry (ch : Chan) (s : State) : Host.Outcome State Fault Refusal :=
  react (expireLowerWindow ch) s

/-- LOWER_REPETITION (R40). -/
def execLowerRepetition (ch : Chan) (s : State) : Host.Outcome State Fault Refusal :=
  react (expireLowerRep ch) s

/-- COOLDOWN_EXPIRY (R43). -/
def execCooldownExpiry (ch : Chan) (s : State) : Host.Outcome State Fault Refusal :=
  react (expireCooldown ch) s

/-- CHANNEL_SUSTAIN_TIMER_EXPIRY (R132). -/
def execChannelSustainTimerExpiry (ch : Chan) (s : State) : Host.Outcome State Fault Refusal :=
  react (expireChanSustain ch) s

/-- BREAKER_SUSTAIN_TIMER_EXPIRY (R133). -/
def execBreakerSustainTimerExpiry (s : State) : Host.Outcome State Fault Refusal :=
  react expireBreakerSustain s

/-- OPEN_REPETITION (R51). -/
def execOpenRepetition (s : State) : Host.Outcome State Fault Refusal :=
  react expireOpenRep s

/-- RECOGNITION_DEADLINE_EXPIRY (R59). -/
def execRecognitionDeadlineExpiry (s : State) : Host.Outcome State Fault Refusal :=
  react expireRecognition s

/-- SWITCH_WINDOW_EXPIRY (R60). -/
def execSwitchWindowExpiry (s : State) : Host.Outcome State Fault Refusal :=
  react expireSwitchWindow s

/-- SETTLE_INTERVAL_EXPIRY (R60). -/
def execSettleIntervalExpiry (s : State) : Host.Outcome State Fault Refusal :=
  react expireSettle s

/-- CLOSE_WINDOW_EXPIRY (R63). -/
def execCloseWindowExpiry (s : State) : Host.Outcome State Fault Refusal :=
  react expireCloseWindow s

/-- OPEN_WINDOW_EXPIRY (R67). -/
def execOpenWindowExpiry (s : State) : Host.Outcome State Fault Refusal :=
  react expireOpenWindow s

/-- NEUTRAL_DEADLINE_EXPIRY (R68). -/
def execNeutralDeadlineExpiry (s : State) : Host.Outcome State Fault Refusal :=
  react expireNeutral s

/-- TRIP_QUIET_TIMER_EXPIRY (R66). -/
def execTripQuietTimerExpiry (s : State) : Host.Outcome State Fault Refusal :=
  react expireTripQuiet s

/-- PASS_TIMER_EXPIRY (R86). -/
def execPassTimerExpiry (z : Zone) (s : State) : Host.Outcome State Fault Refusal :=
  react (expirePassTimer z) s

/-- STAGGER_TIMER_EXPIRY (R91). -/
def execStaggerTimerExpiry (s : State) : Host.Outcome State Fault Refusal :=
  react expireStagger s

/-- PASS_COMPLETION (R95). -/
def execPassCompletion (z : Zone) (s : State) : Host.Outcome State Fault Refusal :=
  react (expirePass z) s

/-- SCRAPE_TIMER_EXPIRY (R101). -/
def execScrapeTimerExpiry (s : State) : Host.Outcome State Fault Refusal :=
  react expireScrape s

/-- NODE_SILENCE (R111). -/
def execNodeSilence (n : Node) (s : State) : Host.Outcome State Fault Refusal :=
  react (nodeSilenced n) s

/-- ACK_DEADLINE_EXPIRY (R118). -/
def execAckDeadlineExpiry (n : Node) (s : State) : Host.Outcome State Fault Refusal :=
  react (ackTimeout n) s

/-- ANNOUNCE_RETRY_TIMER_EXPIRY (R115). -/
def execAnnounceRetryTimerExpiry (s : State) : Host.Outcome State Fault Refusal :=
  react expireAnnounce s

/-- TRAIN_LINK_SILENCE_EXPIRY (R169). -/
def execTrainLinkSilenceExpiry (s : State) : Host.Outcome State Fault Refusal :=
  react expireSilence s

end Sys2Proof.Machine
end

