-- ==== Sys2Proof/Machine/Dispatch.lean ====
section
/-! DEFINITION. The meaning of every command: one arm per constructor of `Instr`. -/

namespace Sys2Proof.Machine

/-- A command's effect on everything but the queue of waiting commands. -/
def exec (i : Instr) (s : State) : Host.Outcome State Fault Refusal :=
  match i with
  | .powerOnReset => Sys2Proof.Machine.execPowerOnReset s
  | .roofFrameCheckFailure kind => Sys2Proof.Machine.execRoofFrameCheckFailure kind s
  | .roofFrameIgnored => Sys2Proof.Machine.execRoofFrameIgnored s
  | .sample src seq payload => Sys2Proof.Machine.execSample src seq payload s
  | .sampleTimeout => Sys2Proof.Machine.execSampleTimeout s
  | .contact src seq payload => Sys2Proof.Machine.execContact src seq payload s
  | .breakerState src seq payload => Sys2Proof.Machine.execBreakerState src seq payload s
  | .switchState src seq payload => Sys2Proof.Machine.execSwitchState src seq payload s
  | .contactorState src seq payload => Sys2Proof.Machine.execContactorState src seq payload s
  | .announce src seq payload => Sys2Proof.Machine.execAnnounce src seq payload s
  | .ack src seq code payload => Sys2Proof.Machine.execAck src seq code payload s
  | .unknownReport src seq code payload => Sys2Proof.Machine.execUnknownReport src seq code payload s
  | .trainFrameCheckFailure kind => Sys2Proof.Machine.execTrainFrameCheckFailure kind s
  | .trainFrameIgnored => Sys2Proof.Machine.execTrainFrameIgnored s
  | .unknownRequest seq code payload => Sys2Proof.Machine.execUnknownRequest seq code payload s
  | .readStatus seq payload => Sys2Proof.Machine.execReadStatus seq payload s
  | .readEntry seq payload => Sys2Proof.Machine.execReadEntry seq payload s
  | .loadEntrySystem seq entry => Sys2Proof.Machine.execLoadEntrySystem seq entry s
  | .clearEntrySystem seq key => Sys2Proof.Machine.execClearEntrySystem seq key s
  | .loadEntryPosition seq entry => Sys2Proof.Machine.execLoadEntryPosition seq entry s
  | .clearEntryPosition seq key => Sys2Proof.Machine.execClearEntryPosition seq key s
  | .loadEntryZone seq entry => Sys2Proof.Machine.execLoadEntryZone seq entry s
  | .clearEntryZone seq key => Sys2Proof.Machine.execClearEntryZone seq key s
  | .loadEntryNode seq entry => Sys2Proof.Machine.execLoadEntryNode seq entry s
  | .clearEntryNode seq key => Sys2Proof.Machine.execClearEntryNode seq key s
  | .loadEntryWindow seq entry => Sys2Proof.Machine.execLoadEntryWindow seq entry s
  | .clearEntryWindow seq key => Sys2Proof.Machine.execClearEntryWindow seq key s
  | .loadEntryInterlock seq entry => Sys2Proof.Machine.execLoadEntryInterlock seq entry s
  | .clearEntryInterlock seq key => Sys2Proof.Machine.execClearEntryInterlock seq key s
  | .loadEntryConfig seq entry => Sys2Proof.Machine.execLoadEntryConfig seq entry s
  | .clearEntryConfig seq key => Sys2Proof.Machine.execClearEntryConfig seq key s
  | .powerUp seq payload => Sys2Proof.Machine.execPowerUp seq payload s
  | .powerDown seq payload => Sys2Proof.Machine.execPowerDown seq payload s
  | .changeover seq payload => Sys2Proof.Machine.execChangeover seq payload s
  | .neutralAhead seq payload => Sys2Proof.Machine.execNeutralAhead seq payload s
  | .sectionClear seq payload => Sys2Proof.Machine.execSectionClear seq payload s
  | .clearLockout seq payload => Sys2Proof.Machine.execClearLockout seq payload s
  | .loweringOrder seq payload => Sys2Proof.Machine.execLoweringOrder seq payload s
  | .channelReset seq payload => Sys2Proof.Machine.execChannelReset seq payload s
  | .channelLower seq payload => Sys2Proof.Machine.execChannelLower seq payload s
  | .remap seq payload => Sys2Proof.Machine.execRemap seq payload s
  | .iceSeason seq payload => Sys2Proof.Machine.execIceSeason seq payload s
  | .scrape seq payload => Sys2Proof.Machine.execScrape seq payload s
  | .depotAccess seq payload => Sys2Proof.Machine.execDepotAccess seq payload s
  | .noticeFilter seq payload => Sys2Proof.Machine.execNoticeFilter seq payload s
  | .partReset seq payload => Sys2Proof.Machine.execPartReset seq payload s
  | .nodeCommand dest seq code payload => Sys2Proof.Machine.execNodeCommand dest seq code payload s
  | .takeoverRequestAsserted => Sys2Proof.Machine.execTakeoverRequestAsserted s
  | .takeoverRequestDeasserted => Sys2Proof.Machine.execTakeoverRequestDeasserted s
  | .roofTransmissionComplete => Sys2Proof.Machine.execRoofTransmissionComplete s
  | .trainTransmissionComplete => Sys2Proof.Machine.execTrainTransmissionComplete s
  | .raiseWindowExpiry ch => Sys2Proof.Machine.execRaiseWindowExpiry ch s
  | .lowerWindowExpiry ch => Sys2Proof.Machine.execLowerWindowExpiry ch s
  | .lowerRepetition ch => Sys2Proof.Machine.execLowerRepetition ch s
  | .cooldownExpiry ch => Sys2Proof.Machine.execCooldownExpiry ch s
  | .channelSustainTimerExpiry ch => Sys2Proof.Machine.execChannelSustainTimerExpiry ch s
  | .breakerSustainTimerExpiry => Sys2Proof.Machine.execBreakerSustainTimerExpiry s
  | .openRepetition => Sys2Proof.Machine.execOpenRepetition s
  | .recognitionDeadlineExpiry => Sys2Proof.Machine.execRecognitionDeadlineExpiry s
  | .switchWindowExpiry => Sys2Proof.Machine.execSwitchWindowExpiry s
  | .settleIntervalExpiry => Sys2Proof.Machine.execSettleIntervalExpiry s
  | .closeWindowExpiry => Sys2Proof.Machine.execCloseWindowExpiry s
  | .openWindowExpiry => Sys2Proof.Machine.execOpenWindowExpiry s
  | .neutralDeadlineExpiry => Sys2Proof.Machine.execNeutralDeadlineExpiry s
  | .tripQuietTimerExpiry => Sys2Proof.Machine.execTripQuietTimerExpiry s
  | .passTimerExpiry z => Sys2Proof.Machine.execPassTimerExpiry z s
  | .staggerTimerExpiry => Sys2Proof.Machine.execStaggerTimerExpiry s
  | .passCompletion z => Sys2Proof.Machine.execPassCompletion z s
  | .scrapeTimerExpiry => Sys2Proof.Machine.execScrapeTimerExpiry s
  | .nodeSilence n => Sys2Proof.Machine.execNodeSilence n s
  | .ackDeadlineExpiry n => Sys2Proof.Machine.execAckDeadlineExpiry n s
  | .announceRetryTimerExpiry => Sys2Proof.Machine.execAnnounceRetryTimerExpiry s
  | .trainLinkSilenceExpiry => Sys2Proof.Machine.execTrainLinkSilenceExpiry s

end Sys2Proof.Machine
end

