-- ==== Sys2Proof/Machine/Step.lean ====
section
/-! DEFINITION. One step: the command at the front of the queue, or, with none waiting, the part's clock (log 2). -/

namespace Sys2Proof.Machine

/-- With no command waiting, the first expiry that is due is taken, and with none due one millisecond passes (log 2). -/
def idle (s : State) : Host.Outcome State Fault Refusal :=
  match dueNow s with
  | [] => .next (advance s)
  | c :: _ => exec c s

/-- One step of the part. -/
def step (s : State) : Host.Outcome State Fault Refusal :=
  match s.pending with
  | [] => idle s
  | c :: rest => exec c { s with pending := rest }

/-- The state with the command a table word spells at the front of the queue. -/
def State.withFetchWord (s : State) (nbits w : Nat) : State :=
  match decodeTableWord nbits w with
  | none => s
  | some c => { s with pending := c :: s.pending }

end Sys2Proof.Machine
end

