-- ==== Sys2Proof/Safety.lean ====
section
/-! DEFINITION. What holds of every safe state (bounds of the queues, rules of the tables, channel records, heaters, transmitters), and the
words in which the statements of Certificates/ speak of an answered request. -/

namespace Sys2Proof.Machine

/-- The queues keep their bounds: class B at most 16 entries and one per node, class C at most 8, bypass count at most 15 (R124), the
mirror buffer at most 8 copies (R152), the Notice Queue at most 32 notices and no two of one key (R165). -/
structure QueuesOk (s : State) : Prop where
  classB_len : s.roof.classB.length ≤ 16
  classB_one : (s.roof.classB.map BEntry.node).Nodup
  classC_len : s.roof.classC.length ≤ 8
  bypass_le : s.roof.bypass ≤ 15
  mirror_len : s.fwd.mirror.length ≤ 8
  notices_len : s.train.notices.length ≤ 32
  notices_keys : (s.train.notices.map fun n => n.data.key).Nodup

/-- No two slots hold the same system id (R12). -/
def idsDiffer (v : Vector (Option SysEntry) 8) : Prop :=
  ∀ i j : Fin 8, ∀ a b, v[i] = some a → v[j] = some b → a.id = b.id → i = j

/-- Two entries of the same level never cover the same address (R138). -/
def windowsApart (v : Vector (Option WindowEntry) 16) : Prop :=
  ∀ i j : Fin 16, ∀ a b, v[i] = some a → v[j] = some b → a.level = b.level → ∀ n : Node, a.covers n → b.covers n → i = j

/-- No two slots hold the same key (R147). -/
def keysDiffer (v : Vector (Option InterlockEntry) 32) : Prop :=
  ∀ i j : Fin 32, ∀ a b, v[i] = some a → v[j] = some b → a.role = b.role → a.code = b.code → i = j

/-- Every numeric item of the configuration set lies in its range (R160). -/
def settingsInRange (s : State) : Prop :=
  ∀ i : ConfigItem, ∀ c : Chan, ∀ lo hi, i.range? = some (lo, hi) → lo ≤ i.get s (some c) ∧ i.get s (some c) ≤ hi

/-- The tables keep their uniqueness rules, the role map its four positions (R24), the settings their ranges. -/
structure TablesOk (s : State) : Prop where
  ids : idsDiffer s.systems
  windows : windowsApart s.fwd.windows
  keys : keysDiffer s.fwd.interlocks
  map : s.roleMap.toList.Nodup
  settings : settingsInRange s

/-- Between commands no outcome is owed, an IDLE roof transmitter has nothing it may pick (R129), and an IDLE train transmitter nothing to
send (R157). -/
structure Settled (s : State) : Prop where
  owed : s.owed = []
  roof : s.roof.tx = none → granted s = false → nextRoof s = none
  train : s.train.tx = none → s.train.responses = [] ∧ s.train.notices = [] ∧ s.fwd.mirror = []

/-- A channel record is legal: a duty exactly in RAISING and UP (R26), the counter within its limit, and 0 in DOWN and RAISING (R31, R32,
R34). -/
structure ChannelOk (r : Channel) : Prop where
  duty : (r.state = .raising ∨ r.state = .up) ↔ r.duty ≠ .noDuty
  counter : r.counter ≤ r.limit
  clear : r.state = .down ∨ r.state = .raising → r.counter = 0

/-- Every channel record is legal. -/
def ChannelsOk (s : State) : Prop := ∀ c : Chan, ChannelOk s.channels[c]

/-- Heat is given only through an open gate and within the allowance (R88, R90). -/
def HeatersOk (s : State) : Prop := (∃ z : Zone, s.zones[z].state = .heating) → gateOpen s = true ∧ heatingLoad s ≤ allowance s

/-- Two states hold the same configuration: tables, role map, settings, ranks, season flag, filter options, and the configured part of
positions, zones and nodes. -/
structure SameConfiguration (s t : State) : Prop where
  systems : t.systems = s.systems
  windows : t.fwd.windows = s.fwd.windows
  interlocks : t.fwd.interlocks = s.fwd.interlocks
  settings : t.settings = s.settings
  roleMap : t.roleMap = s.roleMap
  iceSeason : t.iceSeason = s.iceSeason
  filter : t.train.filter = s.train.filter
  ranks : ∀ c : Chan, t.channels[c].rank = s.channels[c].rank
  positions : ∀ p : Pos, t.positions[p].assigned = s.positions[p].assigned
  nodes : ∀ n : Node, t.nodes[n].role = s.nodes[n].role ∧ t.nodes[n].period = s.nodes[n].period
  zones : ∀ z : Zone, t.zones[z].node = s.zones[z].node ∧ t.zones[z].rated = s.zones[z].rated ∧
    t.zones[z].duration = s.zones[z].duration ∧ t.zones[z].interval = s.zones[z].interval ∧
    t.zones[z].seasonOnly = s.zones[z].seasonOnly

/-- The commands that may change the configuration: the loads and clears, REMAP, ICE-SEASON, NOTICE-FILTER and power-on reset. -/
def configures : Instr → Bool
  | .powerOnReset | .remap .. | .iceSeason .. | .noticeFilter .. => true
  | .loadEntrySystem .. | .loadEntryPosition .. | .loadEntryZone .. | .loadEntryNode .. | .loadEntryWindow ..
  | .loadEntryInterlock .. | .loadEntryConfig .. => true
  | .clearEntrySystem .. | .clearEntryPosition .. | .clearEntryZone .. | .clearEntryNode .. | .clearEntryWindow ..
  | .clearEntryInterlock .. | .clearEntryConfig .. => true
  | _ => false

/-- The management request a command is, by sequence and code (11.3). -/
def request? : Instr → Option (Byte × Byte)
  | .unknownRequest q c _ => some (q, c)
  | .readStatus q _ => some (q, 1)
  | .loadEntrySystem q _ | .loadEntryPosition q _ | .loadEntryZone q _ | .loadEntryNode q _ | .loadEntryWindow q _
  | .loadEntryInterlock q _ | .loadEntryConfig q _ => some (q, 2)
  | .readEntry q _ => some (q, 3)
  | .clearEntrySystem q _ | .clearEntryPosition q _ | .clearEntryZone q _ | .clearEntryNode q _ | .clearEntryWindow q _
  | .clearEntryInterlock q _ | .clearEntryConfig q _ => some (q, 4)
  | .powerUp q _ => some (q, 16)
  | .powerDown q _ => some (q, 17)
  | .changeover q _ => some (q, 18)
  | .neutralAhead q _ => some (q, 19)
  | .sectionClear q _ => some (q, 20)
  | .clearLockout q _ => some (q, 21)
  | .loweringOrder q _ => some (q, 22)
  | .channelReset q _ => some (q, 23)
  | .channelLower q _ => some (q, 24)
  | .remap q _ => some (q, 25)
  | .iceSeason q _ => some (q, 26)
  | .scrape q _ => some (q, 27)
  | .depotAccess q _ => some (q, 28)
  | .noticeFilter q _ => some (q, 29)
  | .partReset q _ => some (q, 30)
  | _ => none

/-- The Train Link Interface after a valid frame: the silence timer restarts and the silent mark clears (R154, R169). -/
def heard (s : State) : Train := { s.train with silence := some s.settings.silenceTime, silent := false }

/-- The Train Link Interface after a request that is answered: one RESPONSE at the end of the response queue (R155). -/
def answered (s : State) (seq code : Byte) (r : Result) (data : List Word) : Train :=
  { heard s with responses := s.train.responses ++ [{ seq := seq, code := code, result := r, data := data }] }

/-- A request or node command that arrives is decided: no PART-RESET is pending (R163), a response place is free (R155, R156), and no
outcome is owed (`Settled`). -/
structure Decides (s : State) : Prop where
  owed : s.owed = []
  going : s.train.resetPending = false
  place : s.train.responses.length < 8

/-- A node's record after a frame of it is taken: the report age restarts, and a SILENT node is PRESENT (R106 step 3). -/
def heardFrom (r : NodeRec) : NodeRec :=
  { r with age := 0, ageRuns := true, presence := if r.presence = .silent then .present else r.presence }

/-- Frames of node n are taken, and its being heard again starts no heater (R106 steps 1 to 3, R91). -/
structure Taken (s : State) (n : Node) : Prop where
  owed : s.owed = []
  configured : s.nodes[n].role ≠ .noRole
  noMismatch : s.nodes[n].presence ≠ .mismatch
  noStart : s.nodes[n].role = .heaterContactor → s.nodes[n].presence ≠ .silent

/-! ## Lowerings, scrape runs and collector losses, in the words of the statements -/

/-- A channel's record after its entry to LOWERING with a cause (R40). -/
def loweredRecord (s : State) (cause : LowerCause) (r : Channel) : Channel :=
  { r with state := .lowering, duty := .noDuty, cause := some cause, phase := some (.lowerWindow, s.settings.lowerWindow),
           sustain := none, lowerRep := some 100 }

/-- The arbiter after a channel of node n entered LOWERING: LOWER in its class A slot, its queued RAISE withdrawn (R40). -/
def loweredQueues (n : Node) (r : Arbiter) : Arbiter :=
  { r with classA := r.classA.set n (some .lower), classB := r.classB.filter fun e => ! (decide (e.node = n) && e.cmd.isRaise) }

/-- The scrape record after its run ended (R102). -/
def runOver (s : State) : Scrape :=
  { s.scrape with run := .noRun, chan := none, forcedZone := none, timer := none, lastEnd := some s.now, since := none }

/-- The data of the SCRAPE-END of channel c's run (R102); the time of the run is in ms (log 36). -/
def runOverNotice (s : State) (c : Chan) (why : EndReason) : NoticeData :=
  .scrapeEnd c why s.scrape.origin s.scrape.run (match s.scrape.since with | none => 0 | some t => s.now - t) (heated s)

/-- The Train Link Interface with one more RESPONSE at the end of the response queue (R155). -/
def responded (t : Train) (seq code : Byte) (r : Result) (data : List Word) : Train :=
  { t with responses := t.responses ++ [{ seq := seq, code := code, result := r, data := data }] }

/-- Channel d is eligible for system k (R27). -/
def CanRaise (s : State) (k : SysId) (d : Chan) : Prop :=
  s.channels[d].state = .down ∧ ∃ a e, s.positions[s.roleMap[d]].assigned = some a ∧ s.nodes[a.node].presence = .present ∧
    sysEntry? s k = some e ∧ e.mask.getLsbD a.cls.val = true

/-- The strip zone of channel d's position is ICE-RISK (R28). -/
def AtRisk (s : State) (d : Chan) : Prop :=
  ∃ a z, s.positions[s.roleMap[d]].assigned = some a ∧ a.strip = some z ∧ s.zones[z].iceRisk = true

/-- Collect selection for system k gives d: the lowest eligible channel, one without ICE-RISK first (R28). -/
def Selected (s : State) (k : SysId) (d : Chan) : Prop :=
  CanRaise s k d ∧ ((¬ AtRisk s d ∧ ∀ x, x < d → CanRaise s k x → AtRisk s x) ∨
    ((∀ x, CanRaise s k x → AtRisk s x) ∧ ∀ x, x < d → ¬ CanRaise s k x))

/-- Channel c is the raised collector of a path to system k that is not closed yet, and no scrape run is on it (R58). -/
structure Collects (s : State) (c : Chan) (k : SysId) : Prop where
  raised : s.channels[c].state = .raising ∨ s.channels[c].state = .up
  collector : s.co.collector = some c
  state : s.co.state = .raising ∨ s.co.state = .recognizing ∨ s.co.state = .switching
  active : s.co.active = some k
  run : s.scrape.chan ≠ some c

/-- A loss of collector c finds no substitute (R58), and the entry to IDLE that follows finds no other channel raised and no run. -/
structure NoSubstitute (s : State) (c : Chan) (k : SysId) : Prop where
  none : s.co.substituteUsed = true ∨ ∀ d, ¬ CanRaise s k d
  alone : ∀ d, d ≠ c → Machine.raised s d = false
  noRun : s.scrape.run = .noRun

/-- A loss of collector c outside a grant finds channel d of position entry b as its substitute, to be raised with a raise window (R28, R30,
R31, R58). -/
structure Substitute (s : State) (c : Chan) (k : SysId) (d : Chan) (b : PosAssign) (window : Nat) : Prop where
  free : granted s = false
  fresh : s.co.substituteUsed = false
  selected : Selected s k d
  place : s.positions[s.roleMap[d]].assigned = some b
  sole : ∀ x, x ≠ c → ¬ (Machine.raised s x = true ∧ s.channels[x].duty = .collect)
  risky : AtRisk s d → window = 2 * s.settings.raiseWindow
  clear : ¬ AtRisk s d → window = s.settings.raiseWindow

/-- The state t that a lost collector leaves, after the controller has entered IDLE with NO-COLLECTOR (R58, R74); s is the state before
the loss. -/
def lostToIdle (s t : State) : State :=
  { t with
    co := { t.co with
      state := .idle, active := none, ordered := none, collector := none, plan := .noPlan, phase := none, tripQuiet := none,
      trips := 0, neutralAnnounced := false, recloseGranted := false, substituteUsed := false, graded := false }
    train := noteNotice (.noCollector s.co.active s.co.state s.co.collector) t.train }

/-- The state t that a lost collector leaves, after the substitute raise of channel d at position entry b: `l` is the class B queue with
its RAISE (R31, R58). -/
def lostToSubstitute (t : State) (d : Chan) (b : PosAssign) (window : Nat) (l : List BEntry) : State :=
  { t with
    channels := upd t.channels d fun r => { r with
      state := .raising, duty := .collect, counter := 0, limit := 16 * t.settings.contactLoss,
      phase := some (.raiseWindow, window), sustain := some 100, raiseSerial := some t.serial }
    co := { t.co with state := .raising, collector := some d, substituteUsed := true, phase := none }
    roof := { t.roof with
      classB := l, classA := upd t.roof.classA b.node fun h => if h = none ∨ h = some .lower then some .sustain else h }
    serial := t.serial + 1 }

end Sys2Proof.Machine
end

