-- ==== Sys2Proof/Certificates/Slice0/Obligations.lean ====
section
/-! DEFINITION. The statements for the provers. `follows s v` is what comes after an action that left v: the takeover evaluation (R120)
and the picks of the two transmitters (R129, R157), made once at the end of a command (logs 4, 5). The serials and `heatOnSerial`,
`raiseSerial`, `closeSerial`, `switchSerial` are the model's own bookkeeping (log 10). -/

open Sys2Proof Sys2Proof.Machine

/-- A step runs the command at the front of the queue. With command c at the front of the queue of waiting commands, one step is
exec of c on the state with the rest of the queue. The queue is the model's own (log 1). -/
def Obligations.StepRunsFrontCommand : Prop :=
  ∀ (s : State) (c : Instr) (rest : List Instr), s.pending = c :: rest → step s = exec c { s with pending := rest }

/-- With no command waiting, a step takes the first due expiry, or one millisecond passes. The model's choice (log 2): on an empty
queue a step runs the first expiry that is due; with none due, the clock advances by 1 ms, and the sample timeout, every phase
timer, sustain timer, pass timer, ACK deadline and the silence timer have 1 ms less to run, while no queue, slot, table or protocol
state changes. -/
def Obligations.IdleStepIsTheClock : Prop :=
  (∀ (s : State) (c : Instr) (l : List Instr), s.pending = [] → dueNow s = c :: l → step s = exec c s) ∧
  (∀ s : State, s.pending = [] → dueNow s = [] → ∃ t, step s = .next t ∧ t.now = s.now + 1 ∧
    t.recog = { s.recog with sampleTimeout := s.recog.sampleTimeout.map (· - 1) } ∧
    (∀ c : Chan, t.channels[c] = { s.channels[c] with
      phase := s.channels[c].phase.map fun x => (x.1, x.2 - 1), sustain := s.channels[c].sustain.map (· - 1),
      lowerRep := s.channels[c].lowerRep.map (· - 1) }) ∧
    t.co = { s.co with
      phase := s.co.phase.map fun x => (x.1, x.2 - 1), sustain := s.co.sustain.map (· - 1),
      openRep := s.co.openRep.map (· - 1), tripQuiet := s.co.tripQuiet.map (· - 1) } ∧
    (∀ z : Zone, t.zones[z] = { s.zones[z] with
      passTimer := s.zones[z].passTimer.map (· - 1),
      accum := if s.zones[z].state = .heating then min (s.zones[z].duration * 1000) (s.zones[z].accum + 1)
        else s.zones[z].accum }) ∧
    (∀ n : Node, t.nodes[n] = { s.nodes[n] with
      age := if s.nodes[n].ageRuns then s.nodes[n].age + 1 else s.nodes[n].age,
      slot := s.nodes[n].slot.map fun o => { o with deadline := o.deadline - 1 } }) ∧
    t.stagger = s.stagger.map (· - 1) ∧ t.announceRetry = s.announceRetry.map (· - 1) ∧
    t.scrape = { s.scrape with timer := s.scrape.timer.map (· - 1) } ∧
    t.train = { s.train with silence := s.train.silence.map (· - 1) } ∧
    t.systems = s.systems ∧ t.positions = s.positions ∧ t.roleMap = s.roleMap ∧ t.iceSeason = s.iceSeason ∧
    t.roofCheckFail = s.roofCheckFail ∧ t.takeover = s.takeover ∧ t.roof = s.roof ∧ t.fwd = s.fwd ∧
    t.settings = s.settings ∧ t.serial = s.serial ∧ t.owed = s.owed ∧ t.pending = s.pending)

/-- No command changes the queue of waiting commands. Whatever command is executed in whatever state, the queue of commands that
wait is the same after it. The queue is the model's own (log 1). -/
def Obligations.ExecKeepsCommandQueue : Prop :=
  ∀ (c : Instr) (s t : State), exec c s = .next t → t.pending = s.pending

/-- The state after power-on reset meets every invariant. After power-on reset the queues keep their bounds, the tables their rules,
every channel record is legal, no heat is given outside the gate, and no outcome is owed and no transmitter has anything to send. -/
def Obligations.ResetMeetsInvariants : Prop :=
  QueuesOk State.reset ∧ TablesOk State.reset ∧ Settled State.reset ∧ ChannelsOk State.reset ∧ HeatersOk State.reset

/-- Every step keeps the bounds of the queues. From every state in which class B holds at most 16 entries and one per node, class C
at most 8, the bypass count is at most 15, the mirror buffer holds at most 8 copies and the Notice Queue at most 32 notices with no
two of one key, a step that answers a next state leaves the same true. -/
def Obligations.QueuesKeepTheirBounds : Prop :=
  ∀ s t : State, QueuesOk s → step s = .next t → QueuesOk t

/-- Every step keeps the uniqueness rules and ranges of the tables. From every state in which no two System Table slots hold one id,
no two windows of one level cover one address, no two Interlock Table slots hold one key, the role map gives four different
positions and every numeric setting lies in its range, a step that answers a next state leaves the same true. -/
def Obligations.TablesKeepTheirRules : Prop :=
  ∀ s t : State, TablesOk s → step s = .next t → TablesOk t

/-- Between commands no transmitter waits beside something it may send, and no outcome is owed. From every state in which no refused
command's outcome is owed (log 6), an IDLE roof transmitter outside a grant has nothing it may pick and an IDLE train transmitter
nothing to send, a step that answers a next state leaves the same true. -/
def Obligations.TransmittersNeverWait : Prop :=
  ∀ s t : State, Settled s → step s = .next t → Settled t

/-- Every step keeps the channel records legal. From every state in which each channel holds a duty exactly in RAISING and UP, its
counter lies within its limit and is 0 in DOWN and RAISING, a step that answers a next state leaves the same true. -/
def Obligations.ChannelRecordsStayLegal : Prop :=
  ∀ s t : State, ChannelsOk s → step s = .next t → ChannelsOk t

/-- Every step keeps the heat within the gate and the allowance. From every state in which a HEATING zone means that the gate is
open and that the load does not exceed the active system's allowance, a step that answers a next state leaves the same true. -/
def Obligations.HeatersStayWithinTheAllowance : Prop :=
  ∀ s t : State, HeatersOk s → step s = .next t → HeatersOk t

/-- Only loads, clears, REMAP, ICE-SEASON, NOTICE-FILTER and power-on reset change the configuration. Every other command, in every
state, leaves the tables, the role map, the settings with the ranks, the ice-season flag, the filter options and the configured part
of positions, nodes and zones as they are. -/
def Obligations.ConfigurationChangesOnlyByItsCommands : Prop :=
  ∀ (c : Instr) (s t : State), configures c = false → exec c s = .next t → SameConfiguration s t

/-- Only a channel reset or a reset of the part moves a LOCKED channel. A channel that is LOCKED is LOCKED after every command but
CHANNEL-RESET, power-on reset and a train transmission completion while a part reset is pending. -/
def Obligations.LockedChannelStaysLocked : Prop :=
  ∀ (c : Instr) (s t : State) (ch : Chan), s.channels[ch].state = .locked → exec c s = .next t →
    (∀ q p, c ≠ .channelReset q p) → c ≠ .powerOnReset → (c = .trainTransmissionComplete → s.train.resetPending = false) →
    t.channels[ch].state = .locked

/-- Only CLEAR-LOCKOUT or a reset ends LOCKOUT, and the first cause is kept. A controller in LOCKOUT stays there with its lockout
cause through every command but CLEAR-LOCKOUT, power-on reset and a train transmission completion while a part reset is pending. -/
def Obligations.LockoutStaysUntilCleared : Prop :=
  ∀ (c : Instr) (s t : State), s.co.state = .lockout → exec c s = .next t →
    (∀ q p, c ≠ .clearLockout q p) → c ≠ .powerOnReset → (c = .trainTransmissionComplete → s.train.resetPending = false) →
    t.co.state = .lockout ∧ t.co.lockoutCause = s.co.lockoutCause

/-- No roof frame starts while a takeover is granted. When a command leaves the takeover GRANTED and the transmitter was IDLE before
it, the transmitter is IDLE after it. -/
def Obligations.NoRoofFrameDuringAGrant : Prop :=
  ∀ (c : Instr) (s t : State), s.roof.tx = none → exec c s = .next t → granted t = true → t.roof.tx = none

/-- A frame the part builds reads back as its fields. For every frame of at most 30 payload words, judging the words built from it
gives the same destination, source, class, sequence, code and payload. -/
def Obligations.FramesReadBackAsBuilt : Prop :=
  ∀ f : Frame, f.payload.length ≤ 30 → judgeFrame f.words = .good f

/-- The check word differs whenever one word differs. Two sequences of words that differ in exactly one word have different check
words, so that a frame with one altered word is discarded with kind CHECK. -/
def Obligations.CheckWordSeesOneChangedWord : Prop :=
  ∀ (a b : List Word) (x y : Word), x ≠ y →
    checkWord (a ++ x :: b) ≠ checkWord (a ++ y :: b) ∧
    judgeFrame (a ++ x :: b ++ [checkWord (a ++ y :: b)]) = .bad .check

/-- The alternating amplitude figure of a window. The variance code is the floor of Q / 960 less the square of the mean code,
clamped to 0; the amplitude figure is twice the largest integer whose square does not exceed it, and at most 65,535. -/
def Obligations.AlternatingAmplitude : Prop :=
  ∀ (S : Int) (Q : Nat),
    (varianceCode S Q : Int) = max 0 ((Q / 960 : Nat) - S.tdiv 960 * S.tdiv 960) ∧
    ∃ r : Nat, r * r ≤ varianceCode S Q ∧ varianceCode S Q < (r + 1) * (r + 1) ∧
      amplitude (varianceCode S Q) = min 65535 (2 * r)

/-- What a window completion writes before classification. D is twice S / 960 truncated toward zero, F is C * 125 / 6 and at most
9999; the figures go into the record, the window count rises to at most 65,535, m_prev takes the mean code, the sums are cleared,
and detector, sequence, stream, results and gap count stay. -/
def Obligations.WindowFiguresAtCompletion : Prop :=
  ∀ r : Recog, windowFigures r = { r with
    lastD := 2 * r.sumS.tdiv 960, lastA := amplitude (varianceCode r.sumS r.sumQ),
    lastF := min 9999 (r.crossings * 125 / 6), lastC := r.crossings, windowCount := min 65535 (r.windowCount + 1),
    mPrev := r.sumS.tdiv 960, sumS := 0, sumQ := 0, crossings := 0, sampleCount := 0 }

/-- The result of a window by thresholds and levels. A window with A below the dead-AC and |D| below the dead-DC threshold is DEAD.
Any other takes the first level with a match: one match gives its system, several AMBIGUOUS, and no match at any level UNKNOWN. -/
def Obligations.WindowClassification : Prop :=
  ∀ (s : State) (D : Int) (A F : Nat),
    let here (l : Nat) (i : Fin 8) (e : SysEntry) : Prop := s.systems[i] = some e ∧ e.level = l ∧
      e.dMin ≤ D ∧ D ≤ e.dMax ∧ e.aMin ≤ A ∧ A ≤ e.aMax ∧ e.fMin ≤ F ∧ F ≤ e.fMax
    let dead : Prop := A < s.settings.deadAc ∧ D.natAbs < s.settings.deadDc
    (dead → classify s D A F = .dead) ∧
    (¬ dead → (∀ l i e, ¬ (1 ≤ l ∧ l ≤ 3 ∧ here l i e)) → classify s D A F = .unknown) ∧
    (¬ dead → ∀ l i e, 1 ≤ l → l ≤ 3 → here l i e → (∀ m j f, 1 ≤ m → m < l → ¬ here m j f) →
      ((∀ j f, here l j f → j = i) → classify s D A F = .system e.id) ∧
      (∀ j f, here l j f → j ≠ i → classify s D A F = .ambiguous))

/-- The candidate and its run count at a window completion. A window result equal to the candidate adds 1 to the run count, at most
15; a different one becomes the candidate with run count 1; and a run count of 0 always becomes 1. Nothing else of the record
changes. -/
def Obligations.ConfirmationCountsRuns : Prop :=
  ∀ (w : LineResult) (r : Recog),
    (r.candidate = w → countRun w r = { r with run := min 15 (r.run + 1) }) ∧
    (r.candidate ≠ w → countRun w r = { r with candidate := w, run := 1 }) ∧
    (r.run = 0 → (countRun w r).candidate = w ∧ (countRun w r).run = 1)

/-- When a candidate becomes the recognised result. In the changeover states that a line result does not move, a window result whose
run reaches its confirm count (the entry's own for a system, the global one otherwise) and that differs from the recognised result
becomes it and queues LINE-CHANGE; below the count, or equal, the recognised result stays and nothing is queued. -/
def Obligations.ConfirmedResultIsTaken : Prop :=
  ∀ (s : State) (w : LineResult),
    s.co.state = .idle ∨ s.co.state = .raising ∨ s.co.state = .opening ∨ s.co.state = .lowering ∨ s.co.state = .coasting ∨
      s.co.state = .lockout →
    let r := countRun w s.recog
    let need := match w with
      | .system k => (match sysEntry? s k with | some e => e.confirm | none => s.settings.confirm)
      | _ => s.settings.confirm
    (need ≤ r.run → s.recog.result ≠ w → confirmResult w s = { s with
      recog := { r with result := w },
      train := noteNotice (.lineChange w s.recog.result s.recog.lastD s.recog.lastA s.recog.lastF s.recog.lastC) s.train }) ∧
    (r.run < need ∨ s.recog.result = w → confirmResult w s = { s with recog := r })

/-- A SAMPLE frame taken is one arrival. SAMPLE of 16 words from the LINE-SENSOR node, not MISMATCH, that does not complete the
window: in sequence it continues the window, out of sequence it is a gap (window, run count and detector cleared, gap count up to
255), in WAITING or STALE it begins a window and the stream is LIVE. Its samples enter the sums and the detector, its sequence is
the last one, the sample timeout restarts at 20 ms, the node is heard from, and nothing else changes but for the picks. -/
def Obligations.SampleFrameEntersTheWindow : Prop :=
  ∀ (s : State) (n : Node) (q : Byte) (p : List Word),
    Taken s n → s.nodes[n].role = .lineSensor → p.length = 16 →
    let cleared : Recog := { s.recog with sumS := 0, sumQ := 0, crossings := 0, sampleCount := 0, detector := .unset }
    let base : Recog :=
      if s.recog.stream = .live then
        (if s.recog.lastSeq.map (· + 1) = some q then s.recog
         else { cleared with run := 0, gapCount := min 255 (s.recog.gapCount + 1) })
      else { cleared with stream := .live }
    base.sampleCount + 16 < 960 →
    exec (.sample n q p) s = .next (follows s { s with
      nodes := upd s.nodes n heardFrom,
      recog := p.foldl (fun r w => addSample r w.toInt) { base with
        lastSeq := some q, sampleTimeout := some 20,
        windowH := if base.sampleCount = 0 then s.settings.hysteresis else base.windowH } })

/-- The sample timeout makes stream and result STALE. SAMPLE_TIMEOUT in LIVE, in the changeover states that a line result does not
move: the window is discarded, the last sequence absent, the run count 0, the timeout stopped, stream and recognised result STALE,
and LINE-CHANGE is queued if the result was another. While the timeout is stopped the command changes nothing (log 3). -/
def Obligations.SampleTimeoutMakesTheStreamStale : Prop :=
  ∀ s : State, s.owed = [] →
    (s.recog.sampleTimeout = none → exec .sampleTimeout s = .next (follows s s)) ∧
    (s.recog.sampleTimeout ≠ none → s.recog.stream = .live →
      s.co.state = .idle ∨ s.co.state = .raising ∨ s.co.state = .opening ∨ s.co.state = .lowering ∨ s.co.state = .coasting ∨
        s.co.state = .lockout →
      exec .sampleTimeout s = .next (follows s { s with
        recog := { s.recog with
          sumS := 0, sumQ := 0, crossings := 0, sampleCount := 0, detector := .unset, lastSeq := none, run := 0,
          stream := .stale, sampleTimeout := none, result := .stale },
        train := if s.recog.result = .stale then s.train
          else noteNotice (.lineChange .stale s.recog.result s.recog.lastD s.recog.lastA s.recog.lastF s.recog.lastC)
            s.train }))

/-- Frames that are discarded, ignored or not taken, and reports that hold no fields. A roof or train frame that fails its check
raises its link's check-failure count to at most 65,535, queues LINK-CHECK with kind and count, and does nothing else; an ignored
roof frame changes nothing; an ignored train frame restarts the silence timer and clears the silent mark. From a node of role NONE,
or one that is MISMATCH, a SAMPLE, ACK or REPORT that is no ANNOUNCE changes nothing; an ANNOUNCE from a node of role NONE is
recorded. UNKNOWN_REPORT from a configured node, not MISMATCH: the node is heard from and the frame offered to the mirror. -/
def Obligations.FramesWithLittleOrNoEffect : Prop :=
  (∀ s : State,
      exec .roofFrameIgnored s = .next s ∧ exec .trainFrameIgnored s = .next { s with train := heard s } ∧
      (s.owed = [] → ∀ k : FrameFailure,
        exec (.roofFrameCheckFailure k) s = .next (follows s { s with
          roofCheckFail := min 65535 (s.roofCheckFail + 1),
          train := noteNotice (.linkCheckRoof k (min 65535 (s.roofCheckFail + 1))) s.train }) ∧
        exec (.trainFrameCheckFailure k) s = .next (follows s { s with
          train := noteNotice (.linkCheckTrain k (min 65535 (s.train.checkFail + 1)))
            { s.train with checkFail := min 65535 (s.train.checkFail + 1) } }))) ∧
  ((∀ (s : State) (n : Node) (q c : Byte) (p : List Word), s.owed = [] →
        (s.nodes[n].role = .noRole ∨ s.nodes[n].presence = .mismatch →
          exec (.sample n q p) s = .next (follows s s) ∧ exec (.ack n q c p) s = .next (follows s s) ∧
          exec (.unknownReport n q c p) s = .next (follows s s) ∧ exec (.contact n q p) s = .next (follows s s) ∧
          exec (.breakerState n q p) s = .next (follows s s) ∧ exec (.switchState n q p) s = .next (follows s s) ∧
          exec (.contactorState n q p) s = .next (follows s s)) ∧
        (s.nodes[n].role = .noRole → ∀ r k rest, p = r :: k :: rest →
          exec (.announce n q p) s = .next (follows s { s with
            nodes := upd s.nodes n fun x => { x with declRole := some r, declClass := some k } }))) ∧
    (∀ (s : State) (n : Node) (q c : Byte) (p : List Word), Taken s n →
        exec (.unknownReport n q c p) s = .next (follows s (offerMirror ⟨n, .report, q, c, p⟩
          { s with nodes := upd s.nodes n heardFrom }))))

/-- When a frame is copied into the mirror buffer. The deciding window is the one covering the node at the lowest level. With its up
mirror on, a copy goes to the end of a buffer of fewer than 8, and is else lost: the loss count rises to at most 65,535 and MIRROR-
OVERFLOW is queued. With it off, or no window at any level, nothing changes. -/
def Obligations.MirrorTakesCopies : Prop :=
  ∀ (s : State) (m : MirrorCopy),
    let covers (l : Nat) (i : Fin 16) (w : WindowEntry) : Prop :=
      s.fwd.windows[i] = some w ∧ w.level = l ∧ w.first ≤ m.src ∧ m.src ≤ w.last
    (∀ l i w, 1 ≤ l → l ≤ 3 → covers l i w → (∀ j f, covers l j f → f = w) → (∀ k j f, 1 ≤ k → k < l → ¬ covers k j f) →
      (w.mirror = false → offerMirror m s = s) ∧
      (w.mirror = true → s.fwd.mirror.length < 8 →
        offerMirror m s = { s with fwd := { s.fwd with mirror := s.fwd.mirror ++ [m] } }) ∧
      (w.mirror = true → 8 ≤ s.fwd.mirror.length →
        offerMirror m s = { s with
          fwd := { s.fwd with mirrorLoss := min 65535 (s.fwd.mirrorLoss + 1) },
          train := noteNotice (.mirrorOverflow m.src m.cls m.code (min 65535 (s.fwd.mirrorLoss + 1))) s.train })) ∧
    ((∀ l i w, 1 ≤ l → l ≤ 3 → ¬ covers l i w) → offerMirror m s = s)

/-- A CONTACT report without ADD that moves no channel. CONTACT from the node of position p, held by channel c, without ADD: the
node is heard from, the position's last reported position is set, and the frame is offered to the mirror. In DOWN, COOLDOWN, LOCKED,
in RAISING without UP and contact, and in LOWERING without DOWN nothing else changes. In UP with TRAVEL or UP, arc count 0 and
contact, the counter decreases by 1 and stops at 0; with arcs or without contact it rises by 16 per arc count, or by 16, where that
stays below half the limit. -/
def Obligations.ContactReportIsTaken : Prop :=
  ∀ (s : State) (n : Node) (q : Byte) (w : Word) (rest : List Word) (p : Pos) (c : Chan) (pos : PanPos) (con : Bool) (arc : Nat),
    Taken s n → s.nodes[n].role = .pantographUnit → posNaming? s n = some p → chanAt? s p = some c →
    contactFields? w = some (.contact pos con false arc) →
    let seen : State := { s with
      nodes := upd s.nodes n heardFrom, positions := upd s.positions p fun r => { r with lastPos := some pos } }
    let up := s.channels[c].counter + (if arc = 0 then 16 else 16 * arc)
    (s.channels[c].state = .down ∨ s.channels[c].state = .cooldown ∨ s.channels[c].state = .locked ∨
      (s.channels[c].state = .raising ∧ ¬ (pos = .up ∧ con = true)) ∨ (s.channels[c].state = .lowering ∧ pos ≠ .down) →
      exec (.contact n q (w :: rest)) s = .next (follows s (offerMirror ⟨n, .report, q, 1, w :: rest⟩ seen))) ∧
    (s.channels[c].state = .up → pos ≠ .down → arc = 0 → con = true →
      exec (.contact n q (w :: rest)) s = .next (follows s (offerMirror ⟨n, .report, q, 1, w :: rest⟩
        { seen with channels := upd s.channels c fun r => { r with counter := r.counter - 1 } }))) ∧
    (s.channels[c].state = .up → pos ≠ .down → ¬ (arc = 0 ∧ con = true) → 2 * up < s.channels[c].limit →
      exec (.contact n q (w :: rest)) s = .next (follows s (offerMirror ⟨n, .report, q, 1, w :: rest⟩
        { seen with channels := upd s.channels c fun r => { r with counter := up } })))

/-- The collector's raise completes and the controller starts recognising. A CONTACT report UP with contact and without ADD, for the
collector in RAISING while the controller is RAISING, the line showing no system and no scrape run on that channel: the channel is
UP with its phase timer stopped, the controller is RECOGNIZING with the recognition deadline running, the node is heard from and the
position recorded; nothing else changes but for mirror and picks. -/
def Obligations.CollectorReachesTheWire : Prop :=
  ∀ (s : State) (n : Node) (q : Byte) (w : Word) (rest : List Word) (p : Pos) (c : Chan) (arc : Nat),
    Taken s n → s.nodes[n].role = .pantographUnit → posNaming? s n = some p → chanAt? s p = some c →
    contactFields? w = some (.contact .up true false arc) →
    s.channels[c].state = .raising → s.co.collector = some c → s.co.state = .raising →
    (∀ k, s.recog.result ≠ .system k) → s.scrape.chan ≠ some c →
    exec (.contact n q (w :: rest)) s = .next (follows s (offerMirror ⟨n, .report, q, 1, w :: rest⟩ { s with
      nodes := upd s.nodes n heardFrom, positions := upd s.positions p fun r => { r with lastPos := some .up },
      channels := upd s.channels c fun r => { r with state := .up, phase := none },
      co := { s.co with state := .recognizing, phase := some (.recognitionDeadline, s.settings.recognitionDeadline) } }))

/-- A DOWN report ends a lowering by its cause, and an ADD report locks a resting channel. A CONTACT report DOWN without ADD for a
LOWERING channel that is not the collector: LOWER repetition and lower window stop, the counter clears, and the channel is COOLDOWN
with the cooldown running after a fault other than ADD, LOCKED after an ADD, and DOWN after any other cause. A report with the ADD
flag for a channel in DOWN or COOLDOWN: LOCKED with fault ADD, timers stopped, counter 0, and CHANNEL-FAULT queued with ADD, LOCKED,
and the counter and limit before the report, which are the model's choice (log 34). -/
def Obligations.ReportsEndALoweringOrLock : Prop :=
  (∀ (s : State) (n : Node) (q : Byte) (w : Word) (rest : List Word) (p : Pos) (c : Chan) (con : Bool) (arc : Nat),
      Taken s n → s.nodes[n].role = .pantographUnit → posNaming? s n = some p → chanAt? s p = some c →
      contactFields? w = some (.contact .down con false arc) → s.channels[c].state = .lowering → s.co.collector ≠ some c →
      let next : ChanState := if s.channels[c].cause ≠ some .fault then .down
        else if s.channels[c].lastFault = .add then .locked else .cooldown
      exec (.contact n q (w :: rest)) s = .next (follows s (offerMirror ⟨n, .report, q, 1, w :: rest⟩ { s with
        nodes := upd s.nodes n heardFrom, positions := upd s.positions p fun r => { r with lastPos := some .down },
        channels := upd s.channels c fun r => { r with
          state := next, duty := .noDuty, counter := 0, sustain := none, lowerRep := none,
          phase := if next = .cooldown then some (.cooldown, s.settings.cooldown) else none } }))) ∧
  (∀ (s : State) (n : Node) (q : Byte) (w : Word) (rest : List Word) (p : Pos) (c : Chan) (pos : PanPos) (con : Bool) (arc : Nat),
      Taken s n → s.nodes[n].role = .pantographUnit → posNaming? s n = some p → chanAt? s p = some c →
      contactFields? w = some (.contact pos con true arc) →
      s.channels[c].state = .down ∨ s.channels[c].state = .cooldown →
      exec (.contact n q (w :: rest)) s = .next (follows s (offerMirror ⟨n, .report, q, 1, w :: rest⟩ { s with
        nodes := upd s.nodes n heardFrom, positions := upd s.positions p fun r => { r with lastPos := some pos },
        channels := upd s.channels c fun r => { r with
          state := .locked, duty := .noDuty, counter := 0, phase := none, sustain := none, lowerRep := none, lastFault := .add },
        train := noteNotice (.channelFault c .add .locked none s.channels[c].counter s.channels[c].limit) s.train })))

/-- BREAKER-STATE reports: no change of state, an uncommanded close, and the close that powers the path. From the BREAKER node: OPEN
outside POWERED and OPENING, TRAVEL anywhere, and CLOSED in POWERED, LOCKOUT, OPENING with a plan other than IDLE, or in CLOSING
before the CLOSE has departed set the last breaker report; OPEN also turns the open repetition off and, outside CLOSING, ends close
progress TRANSMITTED. CLOSED in a state meant to be open, and in OPENING with plan IDLE, also turns the open repetition on and
places OPEN; that a running repetition starts anew, and that CLOSED brings no action in LOCKOUT and in OPENING with another plan, is
the model's reading (logs 17, 19, 51). CLOSED in CLOSING after the CLOSE departed enters POWERED: phase timer stopped, substitute
used and neutral-announced clear, trip quiet timer started when the trip count is 1; channels, positions and recognition stay. -/
def Obligations.BreakerReportIsTaken : Prop :=
  (∀ (s : State) (n : Node) (q : Byte) (w : Word) (rest : List Word) (b : BreakerPos),
      Taken s n → s.nodes[n].role = .breaker → nodeOf? s .breaker = some n → breakerFields? w = some (.breaker b) →
      let heard : State := { s with nodes := upd s.nodes n heardFrom }
      let copy : MirrorCopy := ⟨n, .report, q, 2, w :: rest⟩
      (b = .opened → s.co.state ≠ .powered → s.co.state ≠ .opening →
        exec (.breakerState n q (w :: rest)) s = .next (follows s (offerMirror copy { heard with
          co := { s.co with
            lastBreaker := some .opened, openRep := none,
            close := if s.co.state ≠ .closing ∧ s.co.close = .transmitted then .notPlaced else s.co.close } }))) ∧
      (b = .travel ∨ (b = .closed ∧ ((s.co.state = .opening ∧ s.co.plan ≠ .idle) ∨ s.co.state = .powered ∨ s.co.state = .lockout ∨
          (s.co.state = .closing ∧ s.co.close ≠ .transmitted))) →
        exec (.breakerState n q (w :: rest)) s = .next (follows s (offerMirror copy { heard with
          co := { s.co with lastBreaker := some b } }))) ∧
      (b = .closed → s.co.state = .idle ∨ s.co.state = .raising ∨ s.co.state = .recognizing ∨ s.co.state = .switching ∨
          s.co.state = .neutral ∨ s.co.state = .lowering ∨ s.co.state = .coasting ∨
          (s.co.state = .opening ∧ s.co.plan = .idle) →
        exec (.breakerState n q (w :: rest)) s = .next (follows s (offerMirror copy { heard with
          co := { s.co with lastBreaker := some .closed, openRep := some 100 },
          roof := { s.roof with classA := s.roof.classA.set n (some .opn) } })))) ∧
  (∀ (s : State) (n : Node) (q : Byte) (w : Word) (rest : List Word),
      Taken s n → s.nodes[n].role = .breaker → breakerFields? w = some (.breaker .closed) →
      s.co.state = .closing → s.co.close = .transmitted →
      ∃ v, exec (.breakerState n q (w :: rest)) s = .next (follows s v) ∧
        v.co = { s.co with
          state := .powered, lastBreaker := some .closed, phase := none, substituteUsed := false, neutralAnnounced := false,
          tripQuiet := if s.co.trips = 1 then some 60000 else none } ∧
        v.channels = s.channels ∧ v.positions = s.positions ∧ v.recog = s.recog ∧ v.scrape = s.scrape ∧ v.systems = s.systems ∧
        v.nodes = upd s.nodes n heardFrom)

/-- A SWITCH-STATE report. From the CHANGEOVER-SWITCH node: outside SWITCHING, CLOSING and POWERED, in CLOSING or POWERED when it
shows the active system's position, and in the switch window when it shows another, the last switch report is set and nothing else
changes. In the switch window the active system's position starts the settle interval, where that is not 0; in the settle interval
another position starts the switch window again. -/
def Obligations.SwitchReportIsTaken : Prop :=
  ∀ (s : State) (n : Node) (q : Byte) (w : Word) (rest : List Word),
    Taken s n → s.nodes[n].role = .changeoverSwitch → w.toNat ≤ 4 →
    let at' : Changeover := { s.co with lastSwitch := some w.toNat }
    let leaves (co : Changeover) : State := offerMirror ⟨n, .report, q, 3, w :: rest⟩ { s with
      nodes := upd s.nodes n heardFrom, co := co }
    (s.co.state ≠ .switching → s.co.state ≠ .closing → s.co.state ≠ .powered →
      exec (.switchState n q (w :: rest)) s = .next (follows s (leaves at'))) ∧
    (∀ (k : SysId) (e : SysEntry), s.co.active = some k → sysEntry? s k = some e →
      (s.co.state = .closing ∨ s.co.state = .powered → w.toNat = e.switchPos →
        exec (.switchState n q (w :: rest)) s = .next (follows s (leaves at'))) ∧
      (∀ left, s.co.state = .switching → s.co.phase = some (.switchWindow, left) →
        (w.toNat ≠ e.switchPos → exec (.switchState n q (w :: rest)) s = .next (follows s (leaves at'))) ∧
        (w.toNat = e.switchPos → s.settings.settleInterval ≠ 0 →
          exec (.switchState n q (w :: rest)) s = .next (follows s (leaves { at' with
            switchSerial := none, phase := some (.settleInterval, s.settings.settleInterval) })))) ∧
      (∀ left, s.co.state = .switching → s.co.phase = some (.settleInterval, left) →
        (w.toNat = e.switchPos → exec (.switchState n q (w :: rest)) s = .next (follows s (leaves at'))) ∧
        (w.toNat ≠ e.switchPos → exec (.switchState n q (w :: rest)) s = .next (follows s (leaves { at' with
          phase := some (.switchWindow, s.settings.switchWindow) })))))

/-- A CONTACTOR-STATE report that is no failure. From the node of zone z: the last contactor report is set; OFF, ON while HEATING,
and FAULT while not HEATING do nothing else; ON while not HEATING also queues HEAT-OFF for the node in class B, where a place is
found for it. -/
def Obligations.ContactorReportIsTaken : Prop :=
  ∀ (s : State) (n : Node) (q : Byte) (w : Word) (rest : List Word) (z : Zone) (b : ContactorPos) (l : List BEntry),
    Taken s n → s.nodes[n].role = .heaterContactor → zoneOfNode? s n = some z → contactorFields? w = some (.contactor b) →
    let heard : State := { s with
      nodes := upd s.nodes n heardFrom, zones := upd s.zones z fun r => { r with lastReport := some b } }
    let copy : MirrorCopy := ⟨n, .report, q, 4, w :: rest⟩
    (b = .off ∨ (b = .on ∧ s.zones[z].state = .heating) ∨ (b = .fault ∧ s.zones[z].state ≠ .heating) →
      exec (.contactorState n q (w :: rest)) s = .next (follows s (offerMirror copy heard))) ∧
    (b = .on → s.zones[z].state ≠ .heating → insertB ⟨n, .heatOff z, s.serial⟩ s.roof.classB = some l →
      exec (.contactorState n q (w :: rest)) s = .next (follows s (offerMirror copy { heard with
        serial := s.serial + 1, roof := { s.roof with classB := l } })))

/-- Where a class B command is placed. A command for a node with an entry replaces it in its place; else it is added at the end of
fewer than 16 entries; else the oldest ANNOUNCE-REQUEST is removed and it is added at the end; else it is refused. -/
def Obligations.ClassBPlacement : Prop :=
  ∀ (e : BEntry) (l : List BEntry),
    (∀ a b x, l = a ++ x :: b → x.node = e.node → (∀ y ∈ a ++ b, y.node ≠ e.node) → insertB e l = some (a ++ e :: b)) ∧
    ((∀ y ∈ l, y.node ≠ e.node) → l.length < 16 → insertB e l = some (l ++ [e])) ∧
    ((∀ y ∈ l, y.node ≠ e.node) → l.length = 16 → ∀ a b x, l = a ++ x :: b → x.cmd = .announceRequest →
      (∀ y ∈ a, y.cmd ≠ .announceRequest) → insertB e l = some (a ++ b ++ [e])) ∧
    ((∀ y ∈ l, y.node ≠ e.node) → l.length = 16 → (∀ y ∈ l, y.cmd ≠ .announceRequest) → insertB e l = none)

/-- What a class A slot holds after a placement. LOWER or OPEN placed takes the slot whatever it holds; SUSTAIN placed takes an
empty slot and is else left out. A placement changes that slot alone, in every state of the node and during a grant. -/
def Obligations.ClassAPlacement : Prop :=
  ∀ (s : State) (n : Node) (f : AFrame),
    placeA n f s = { s with
      roof := { s.roof with
        classA := s.roof.classA.set n (if f = .sustain ∧ s.roof.classA[n] ≠ none then s.roof.classA[n] else some f) } }

/-- ANNOUNCE makes a node PRESENT or MISMATCH. ANNOUNCE from a configured node, not a HEATER-CONTACTOR, whose declared role is the
configured one, whose class word is 0 to 4 and, for a PANTOGRAPH-UNIT named by a position, the position's: the declared words are
recorded, the node is PRESENT with report age 0, and the frame is mirrored unless the node was MISMATCH. With a wrong role, or a
class word above 4 (for these roles the model's reading, log 41), from an AUXILIARY or LINE-SENSOR with nothing queued for it, the
node is MISMATCH and NODE-MISMATCH is queued; if it was MISMATCH already, only the declared words change. -/
def Obligations.AnnounceIsJudged : Prop :=
  (∀ (s : State) (n : Node) (q : Byte) (r k : Word) (rest : List Word), s.owed = [] →
      s.nodes[n].role ≠ .noRole → s.nodes[n].role ≠ .heaterContactor → role? r = some s.nodes[n].role → k.toNat ≤ 4 →
      (s.nodes[n].role = .pantographUnit → ∀ p a, posNaming? s n = some p → s.positions[p].assigned = some a →
        k.toNat = number a.cls) →
      let v : State := { s with nodes := upd s.nodes n fun x => { x with
        declRole := some r, declClass := some k, presence := .present, age := 0, ageRuns := true } }
      (s.nodes[n].presence ≠ .mismatch →
        exec (.announce n q (r :: k :: rest)) s = .next (follows s (offerMirror ⟨n, .report, q, 5, r :: k :: rest⟩ v))) ∧
      (s.nodes[n].presence = .mismatch → exec (.announce n q (r :: k :: rest)) s = .next (follows s v))) ∧
  (∀ (s : State) (n : Node) (q : Byte) (r k : Word) (rest : List Word), s.owed = [] →
      s.nodes[n].role = .auxiliary ∨ s.nodes[n].role = .lineSensor → role? r ≠ some s.nodes[n].role ∨ 4 < k.toNat →
      (∀ e ∈ s.roof.classB, e.node ≠ n) → (∀ e ∈ s.roof.classC, e.node ≠ n) →
      let declared : NodeRec := { s.nodes[n] with declRole := some r, declClass := some k }
      (s.nodes[n].presence = .mismatch →
        exec (.announce n q (r :: k :: rest)) s = .next (follows s { s with nodes := s.nodes.set n declared })) ∧
      (s.nodes[n].presence ≠ .mismatch →
        exec (.announce n q (r :: k :: rest)) s = .next (follows s (offerMirror ⟨n, .report, q, 5, r :: k :: rest⟩ { s with
          nodes := s.nodes.set n { declared with presence := .mismatch, age := 0, ageRuns := true },
          train := noteNotice (.nodeMismatch n s.nodes[n].role (some r) (some k) (judgingClass? s n)) s.train }))))

/-- A matching ACK or the ACK deadline empties the outstanding slot. An ACK with the slot's roof sequence and a defined result, and
the passing of the deadline, empty the slot. A forwarded command is then answered with its train sequence and ACCEPTED or REJECTED
with the ACK's data words, or TIMEOUT; an ANNOUNCE-REQUEST and any ACCEPTED change nothing else. With an empty slot, another
sequence or an undefined result the ACK is discarded: the node is heard from and the frame offered to the mirror. That the deadline
command changes nothing at an empty slot is the model's choice (log 3). The failed outcomes of RAISE, CLOSE, SWITCH, HEAT-ON and
HEAT-OFF are not stated here. -/
def Obligations.AckAndDeadlineEmptyTheSlot : Prop :=
  (∀ (s : State) (n : Node) (q c : Byte) (p : List Word), s.nodes[n].slot = none →
    (Taken s n →
      exec (.ack n q c p) s = .next (follows s (offerMirror ⟨n, .ack, q, c, p⟩ { s with nodes := upd s.nodes n heardFrom }))) ∧
    (s.owed = [] → exec (.ackDeadlineExpiry n) s = .next (follows s s))) ∧
  ∀ (s : State) (n : Node) (q c : Byte) (p : List Word) (o : Outstanding), s.nodes[n].slot = some o →
    let answer (r : Result) (d : List Word) : Train := match o.origin with
      | .train ts => { s.train with responses := s.train.responses ++ [⟨ts, o.code, r, d⟩] }
      | .part .. => s.train
    let free : NodeRec → NodeRec := fun r => { heardFrom r with slot := none }
    (∀ x d, Taken s n → o.seq = q → p = x :: d →
      (x = 17 ∨ (x = 18 ∧ ∀ b i, o.origin = .part b i → b = .announceRequest) →
        exec (.ack n q c p) s = .next (follows s (offerMirror ⟨n, .ack, q, c, p⟩ { s with
          nodes := upd s.nodes n free, train := answer (if x = 17 then .accepted else .rejected) d })))) ∧
    (Taken s n → o.seq ≠ q ∨ p = [] ∨ (∀ x d, p = x :: d → x ≠ 17 ∧ x ≠ 18) →
      exec (.ack n q c p) s = .next (follows s (offerMirror ⟨n, .ack, q, c, p⟩ { s with nodes := upd s.nodes n heardFrom }))) ∧
    (s.owed = [] → (∀ b i, o.origin = .part b i → b = .announceRequest) →
      exec (.ackDeadlineExpiry n) s = .next (follows s { s with
        nodes := upd s.nodes n fun r => { r with slot := none }, train := answer .timeout [] }))

/-- A supervised node becomes SILENT. NODE_SILENCE for a PRESENT node with a period: the node is SILENT and NODE-SILENT is queued
with role, period and age; a silent breaker's last report (outside POWERED) and a silent switch's last report become NONE; a
pantograph unit whose channel is not raised and a contactor whose zone is not HEATING do nothing else. That a node not PRESENT, or
with period 0, is left as it is, is the model's choice (log 3). A raised pantograph unit, a HEATING contactor and the breaker in
POWERED are not stated here. -/
def Obligations.SilentNodeIsReported : Prop :=
  ∀ (s : State) (n : Node), s.owed = [] →
    (s.nodes[n].presence ≠ .present ∨ s.nodes[n].period = 0 → exec (.nodeSilence n) s = .next (follows s s)) ∧
    (s.nodes[n].presence = .present → 0 < s.nodes[n].period →
      (s.nodes[n].role = .breaker → s.co.state ≠ .powered) →
      (s.nodes[n].role = .pantographUnit → ∀ c, chanOfNode? s n = some c → raised s c = false) →
      (s.nodes[n].role = .heaterContactor → ∀ z, zoneOfNode? s n = some z → s.zones[z].state ≠ .heating) →
      exec (.nodeSilence n) s = .next (follows s { s with
        nodes := upd s.nodes n fun r => { r with presence := .silent },
        train := noteNotice (.nodeSilent n s.nodes[n].role s.nodes[n].period s.nodes[n].age) s.train,
        co := if s.nodes[n].role = .breaker then { s.co with lastBreaker := none }
          else if s.nodes[n].role = .changeoverSwitch then { s.co with lastSwitch := none } else s.co }))

/-- Power-on reset gives every block its power-on values. POWER_ON_RESET leaves the state after reset: empty tables and queues, no
result, identity role map, every channel DOWN with rank 7 and limit 640, changeover IDLE, zones IDLE, nodes unconfigured and ABSENT,
default settings. That the request pin and the commands that wait are kept, and the clock starts anew, is the model's choice (log
24). -/
def Obligations.PowerOnResetRestoresEveryBlock : Prop :=
  ∀ s : State, ∃ t, exec .powerOnReset s = .next t ∧
    t = { State.reset with takeover := { State.reset.takeover with request := s.takeover.request }, pending := s.pending } ∧
    t.recog.result = .noResult ∧ t.recog.stream = .waiting ∧ (∀ i : Fin 8, t.systems[i] = none) ∧
    (∀ p : Pos, t.positions[p].assigned = none ∧ t.positions[p].lastPos = none) ∧ (∀ c : Chan, t.roleMap[c] = c) ∧
    (∀ c : Chan, t.channels[c].state = .down ∧ t.channels[c].rank = 7 ∧ t.channels[c].limit = 640 ∧
      t.channels[c].lastFault = .noFault) ∧
    t.co.state = .idle ∧ t.co.lastBreaker = none ∧ t.co.lastSwitch = none ∧
    (∀ z : Zone, t.zones[z].node = none ∧ t.zones[z].state = .idle) ∧ t.iceSeason = false ∧ t.scrape.run = .noRun ∧
    (∀ n : Node, t.nodes[n].role = .noRole ∧ t.nodes[n].presence = .absent ∧ t.nodes[n].seq = 0 ∧ t.nodes[n].slot = none ∧
      t.roof.classA[n] = none) ∧
    t.roof.classB = [] ∧ t.roof.classC = [] ∧ t.roof.tx = none ∧ t.fwd.mirror = [] ∧ (∀ i : Fin 16, t.fwd.windows[i] = none) ∧
    (∀ i : Fin 32, t.fwd.interlocks[i] = none) ∧ t.train.responses = [] ∧ t.train.notices = [] ∧ t.train.tx = none ∧
    t.settings.silenceTime = 2000 ∧ t.train.silence = some 2000

/-- Requests and node commands that are discarded, and loads and clears of frozen tables. A management request that arrives with no
response place free or a PART-RESET pending is discarded unanswered and counted; a node command with a PART-RESET pending is
discarded and counted nowhere (the model's choice, log 33), and with no place free discarded and counted as a discarded command;
each restarts the silence timer. While a channel is RAISING, UP or LOWERING or the controller is not IDLE or LOCKOUT, a load of
SYSTEM, POSITION, NODE, WINDOW or INTERLOCK, and a clear, with its arguments complete is answered FROZEN. -/
def Obligations.TrainFramesTurnedAway : Prop :=
  ∀ s : State, s.owed = [] →
    let full : Prop := 8 ≤ s.train.responses.length
    let counted : Train := { heard s with reqDiscard := min 65535 (s.train.reqDiscard + 1) }
    (∀ c q k, request? c = some (q, k) → s.train.resetPending = true ∨ full →
      exec c s = .next (follows s { s with train := counted })) ∧
    (∀ n q c p,
      (s.train.resetPending = true → exec (.nodeCommand n q c p) s = .next (follows s { s with train := heard s })) ∧
      (s.train.resetPending = false → full → exec (.nodeCommand n q c p) s = .next (follows s { s with
        train := heard s, fwd := { s.fwd with discarded := min 65535 (s.fwd.discarded + 1) } }))) ∧
    (s.train.resetPending = false → ¬ full →
      (∃ c : Chan, s.channels[c].state = .raising ∨ s.channels[c].state = .up ∨ s.channels[c].state = .lowering) ∨
        (s.co.state ≠ .idle ∧ s.co.state ≠ .lockout) →
      ∀ (c : Instr) (q : Byte) (k : Byte),
        (k = 2 ∧ ∃ e : List Word, (c = .loadEntrySystem q e ∧ 15 ≤ e.length) ∨ (c = .loadEntryPosition q e ∧ 4 ≤ e.length) ∨
          (c = .loadEntryNode q e ∧ 3 ≤ e.length) ∨ (c = .loadEntryWindow q e ∧ 6 ≤ e.length) ∨
          (c = .loadEntryInterlock q e ∧ 6 ≤ e.length)) ∨
        (k = 4 ∧ ∃ e : List Word, e ≠ [] ∧ (c = .clearEntrySystem q e ∨ c = .clearEntryPosition q e ∨ c = .clearEntryNode q e ∨
          c = .clearEntryWindow q e ∨ c = .clearEntryInterlock q e)) →
        exec c s = .next (follows s { s with train := answered s q k .frozen [] }))

/-- Reads and unknown requests change nothing but the answer. UNKNOWN_REQUEST of a code outside 1 to 4 and 16 to 30 is answered
UNKNOWN-REQUEST. READ_STATUS of an existing record is answered OK and else BAD-ENTRY without data; the recognition record is result,
candidate, run, D in two words, A, F, C, window count, gap count, stream state and sample count. READ_ENTRY of a System Table slot
gives one word 0 for an empty slot and the entry in the layout of the load for a full one. -/
def Obligations.ReadsAndUnknownRequestsChangeNothing : Prop :=
  ∀ (s : State) (q : Byte), Decides s →
    let told (r : Result) (k : Byte) (d : List Word) : State := follows s { s with train := answered s q k r d }
    (∀ c p, ¬ (1 ≤ c.toNat ∧ c.toNat ≤ 4) → ¬ (16 ≤ c.toNat ∧ c.toNat ≤ 30) →
      exec (.unknownRequest q c p) s = .next (told .unknownRequest c [])) ∧
    (∀ kind index rest,
      let one : Prop := kind = 1 ∨ kind = 2 ∨ kind = 3 ∨ kind = 7 ∨ kind = 8
      let many : Prop := (kind = 4 ∧ 1 ≤ index.toNat ∧ index.toNat ≤ 4) ∨ (kind = 5 ∧ 1 ≤ index.toNat ∧ index.toNat ≤ 10) ∨
        (kind = 6 ∧ 1 ≤ index.toNat ∧ index.toNat ≤ 63)
      ((one ∧ index = 0) ∨ many → ∃ d, exec (.readStatus q (kind :: index :: rest)) s = .next (told .ok 1 d)) ∧
      (¬ ((one ∧ index = 0) ∨ many) → exec (.readStatus q (kind :: index :: rest)) s = .next (told .badEntry 1 []))) ∧
    (∀ rest, exec (.readStatus q (2 :: 0 :: rest)) s = .next (told .ok 1
      ([s.recog.result.code, s.recog.candidate.code, word s.recog.run] ++ signed2 s.recog.lastD ++
        [word s.recog.lastA, word s.recog.lastF, word s.recog.lastC, word s.recog.windowCount, word s.recog.gapCount,
         s.recog.stream.code, word s.recog.sampleCount]))) ∧
    (∀ (i : Fin 8) rest,
      (s.systems[i] = none → exec (.readEntry q (1 :: word (number i) :: rest)) s = .next (told .ok 3 [0])) ∧
      (∀ e, s.systems[i] = some e → exec (.readEntry q (1 :: word (number i) :: rest)) s = .next (told .ok 3
        ([word (number i), word (number e.id), word e.level] ++ signed2 e.dMin ++ signed2 e.dMax ++
          [word e.aMin, word e.aMax, word e.fMin, word e.fMax, word e.confirm, e.mask.zeroExtend 16, word e.switchPos,
           word e.allowance])))) ∧
    (∀ p, ∃ r d, exec (.readEntry q p) s = .next (told r 3 d) ∧ (r = .ok ∨ (r = .badEntry ∧ d = [])))

/-- Loads and clears of the System Table. LOAD_ENTRY_SYSTEM outside the freeze, of an existing slot and id: level, D limits,
frequencies, confirm count, switch position and allowance are clamped to their ranges; limits crossed or a mask empty or above 15
give BAD-ENTRY, an id held by another slot gives DUPLICATE, else the slot takes the entry and the answer is OK with the entry.
CLEAR_ENTRY_SYSTEM empties the slot with OK. Nothing else changes. -/
def Obligations.SystemTableLoadAndClear : Prop :=
  ∀ (s : State) (q : Byte) (i : Fin 8) (slot : Word) (rest : List Word), Decides s → frozen s = false → slot.toNat = number i →
    let told (r : Result) (d : List Word) : State := { s with train := answered s q 2 r d }
    (∀ (k : SysId) (id level dMinH dMinL dMaxH dMaxL aMin aMax fMin fMax confirm mask switch allow : Word), id.toNat = number k →
      let e : SysEntry := {
        id := k, level := max 1 (min 3 level.toNat), dMin := max (-65536) (min 65535 (wideSigned dMinH dMinL)),
        dMax := max (-65536) (min 65535 (wideSigned dMaxH dMaxL)), aMin := aMin.toNat, aMax := aMax.toNat,
        fMin := min 9999 fMin.toNat, fMax := min 9999 fMax.toNat, confirm := max 1 (min 15 confirm.toNat),
        mask := mask.truncate 4, switchPos := max 1 (min 4 switch.toNat), allowance := min 250 allow.toNat }
      let load : Instr := .loadEntrySystem q (slot :: id :: level :: dMinH :: dMinL :: dMaxH :: dMaxL :: aMin :: aMax :: fMin ::
        fMax :: confirm :: mask :: switch :: allow :: rest)
      let good : Prop := e.dMin ≤ e.dMax ∧ e.aMin ≤ e.aMax ∧ e.fMin ≤ e.fMax ∧ mask ≠ 0 ∧ mask.toNat ≤ 15
      let taken : Prop := ∃ (j : Fin 8) (x : SysEntry), j ≠ i ∧ s.systems[j] = some x ∧ x.id = k
      (¬ good → exec load s = .next (follows s (told .badEntry []))) ∧
      (good → taken → exec load s = .next (follows s (told .duplicate []))) ∧
      (good → ¬ taken → exec load s = .next (follows s { told .ok (e.words i) with systems := s.systems.set i (some e) }))) ∧
    exec (.clearEntrySystem q (slot :: rest)) s = .next (follows s { s with
      systems := s.systems.set i none, train := answered s q 4 .ok [] })

/-- Loads and clears of the Window Table and the Interlock Table. Outside the freeze, of existing slots: a window with its last
address below its first is refused with BAD-ENTRY, one that shares an address with another slot's window of its (clamped) level with
OVERLAP, else the slot takes it; an interlock entry whose role and code another slot holds is refused with DUPLICATE, else the slot
takes it. Each is answered OK with the entry. A clear empties the slot with OK. -/
def Obligations.WindowAndInterlockLoadAndClear : Prop :=
  ∀ (s : State) (q : Byte) (slot : Word) (rest : List Word), Decides s → frozen s = false →
    (∀ (i : Fin 16) (a b : Node) (d : DownAction) (first last level down : Word) (m : Bool), slot.toNat = number i →
      first.toNat = number a → last.toNat = number b → downAction? down = some d →
      let w : WindowEntry := { first := a, last := b, level := max 1 (min 3 level.toNat), down := d, mirror := m }
      let load : Instr := .loadEntryWindow q (slot :: first :: last :: level :: down :: (if m then 1 else 0) :: rest)
      let shared : Prop := ∃ (j : Fin 16) (x : WindowEntry) (n : Node), j ≠ i ∧ s.fwd.windows[j] = some x ∧ x.level = w.level ∧
        x.first ≤ n ∧ n ≤ x.last ∧ a ≤ n ∧ n ≤ b
      let crossed : Prop := ∃ (j : Fin 16) (x : WindowEntry), j ≠ i ∧ s.fwd.windows[j] = some x ∧ x.last < x.first
      (b < a → exec load s = .next (follows s { s with train := answered s q 2 .badEntry [] })) ∧
      (a ≤ b → shared → exec load s = .next (follows s { s with train := answered s q 2 .overlap [] })) ∧
      (a ≤ b → ¬ shared → ¬ crossed → exec load s = .next (follows s { s with
        train := answered s q 2 .ok (w.words i), fwd := { s.fwd with windows := s.fwd.windows.set i (some w) } })) ∧
      exec (.clearEntryWindow q (slot :: rest)) s = .next (follows s { s with
        train := answered s q 4 .ok [], fwd := { s.fwd with windows := s.fwd.windows.set i none } })) ∧
    (∀ (i : Fin 32) (e : InterlockEntry) (role code states chan zone : Word), slot.toNat = number i →
      loadableRole? role = some e.role → 64 ≤ code.toNat → code.toNat = e.code.toNat → states ≠ 0 →
      states.toNat = e.states.toNat → chanCond? chan = some e.chan → zoneCond? zone = some e.zone →
      let load : Instr := .loadEntryInterlock q (slot :: role :: code :: states :: chan :: zone :: rest)
      let held : Prop := ∃ (j : Fin 32) (x : InterlockEntry), j ≠ i ∧ s.fwd.interlocks[j] = some x ∧ x.role = e.role ∧
        x.code = e.code
      (held → exec load s = .next (follows s { s with train := answered s q 2 .duplicate [] })) ∧
      (¬ held → exec load s = .next (follows s { s with
        train := answered s q 2 .ok (e.words i), fwd := { s.fwd with interlocks := s.fwd.interlocks.set i (some e) } })) ∧
      exec (.clearEntryInterlock q (slot :: rest)) s = .next (follows s { s with
        train := answered s q 4 .ok [], fwd := { s.fwd with interlocks := s.fwd.interlocks.set i none } }))

/-- Loads and clears of a position record. LOAD_ENTRY_POSITION outside the freeze with fields in range: a node that is no
PANTOGRAPH-UNIT is refused with BAD-ENTRY, one that another position names with DUPLICATE, else the position is assigned and keeps
its last report only for the same node, with OK and the entry; CLEAR_ENTRY_POSITION makes it unassigned with last position NONE.
Nothing else changes where the nodes named have announced nothing, so that none is judged anew. -/
def Obligations.PositionLoadAndClear : Prop :=
  ∀ (s : State) (q : Byte) (p : Pos) (pw : Word) (rest : List Word), Decides s → frozen s = false → pw.toNat = number p →
    (∀ a, s.positions[p].assigned = some a → s.nodes[a.node].declRole = none) →
    (∀ (a : PosAssign) (nw cw zw : Word), nw.toNat = number a.node → cw.toNat = number a.cls →
      zw.toNat = (match a.strip with | none => 0 | some z => number z) →
      let load : Instr := .loadEntryPosition q (pw :: nw :: cw :: zw :: rest)
      let same : Prop := ∃ x, s.positions[p].assigned = some x ∧ x.node = a.node
      let other : Prop := ∃ (o : Pos) (x : PosAssign), o ≠ p ∧ s.positions[o].assigned = some x ∧ x.node = a.node
      (s.nodes[a.node].role ≠ .pantographUnit →
        exec load s = .next (follows s { s with train := answered s q 2 .badEntry [] })) ∧
      (s.nodes[a.node].role = .pantographUnit → other →
        exec load s = .next (follows s { s with train := answered s q 2 .duplicate [] })) ∧
      (s.nodes[a.node].role = .pantographUnit → ¬ other → s.nodes[a.node].declRole = none →
        (same → exec load s = .next (follows s { s with
          positions := upd s.positions p fun r => { r with assigned := some a },
          train := answered s q 2 .ok [word (number p), nw, cw, zw] })) ∧
        (¬ same → exec load s = .next (follows s { s with
          positions := s.positions.set p { assigned := some a, lastPos := none },
          train := answered s q 2 .ok [word (number p), nw, cw, zw] })))) ∧
    exec (.clearEntryPosition q (pw :: rest)) s = .next (follows s { s with
      positions := s.positions.set p { assigned := none, lastPos := none }, train := answered s q 4 .ok [] })

/-- Loads and clears of a heater zone. LOAD_ENTRY_ZONE and CLEAR_ENTRY_ZONE of a HEATING or PAUSED zone are refused with BUSY. With
the heater gate closed: a node that is no HEATER-CONTACTOR gives BAD-ENTRY, one of another zone DUPLICATE; else the zone takes rated
power, duration and interval clamped to their ranges, its pass timer restarts in full where it runs, its last report stays only for
the same node, and a WAITING zone's accumulator is cut to the duration. A clear unassigns the zone and clears its scheduling state;
that it clears the accumulator is the model's choice (log 22). -/
def Obligations.ZoneLoadAndClear : Prop :=
  ∀ (s : State) (q : Byte) (z : Zone) (zw : Word) (rest : List Word), Decides s → zw.toNat = number z →
    let busy : Prop := s.zones[z].state = .heating ∨ s.zones[z].state = .paused
    (∀ (n : Node) (nw rated duration interval : Word) (season : Bool), nw.toNat = number n →
      let load : Instr := .loadEntryZone q (zw :: nw :: rated :: duration :: interval :: (if season then 1 else 0) :: rest)
      let kw := max 1 (min 60 rated.toNat)
      let dur := max 10 (min 600 duration.toNat)
      let gap := max 60 (min 3600 interval.toNat)
      let other : Prop := ∃ y : Zone, y ≠ z ∧ s.zones[y].node = some n
      (busy → exec load s = .next (follows s { s with train := answered s q 2 .busy [] })) ∧
      (¬ busy → s.nodes[n].role ≠ .heaterContactor →
        exec load s = .next (follows s { s with train := answered s q 2 .badEntry [] })) ∧
      (¬ busy → s.nodes[n].role = .heaterContactor → other →
        exec load s = .next (follows s { s with train := answered s q 2 .duplicate [] })) ∧
      (¬ busy → s.nodes[n].role = .heaterContactor → ¬ other → gateOpen s = false →
        exec load s = .next (follows s { s with
          zones := upd s.zones z fun r => { r with
            node := some n, rated := kw, duration := dur, interval := gap, seasonOnly := season,
            lastReport := if r.node = some n then r.lastReport else none,
            accum := if r.state = .waiting then min r.accum (dur * 1000) else r.accum,
            passTimer := if season = false ∨ s.iceSeason = true then some (gap * 1000) else none },
          train := answered s q 2 .ok [word (number z), nw, word kw, word dur, word gap, if season then 1 else 0] }))) ∧
    (busy → exec (.clearEntryZone q (zw :: rest)) s = .next (follows s { s with train := answered s q 4 .busy [] })) ∧
    (¬ busy → gateOpen s = false → exec (.clearEntryZone q (zw :: rest)) s = .next (follows s { s with
      zones := upd s.zones z fun r => { r with
        node := none, state := .idle, owedPasses := 0, due := none, accum := 0, passTimer := none, iceRisk := false,
        forced := false, bypassed := 0, lastReport := none },
      train := answered s q 4 .ok [] }))

/-- Loads and clears of a node's configuration. LOAD_ENTRY_NODE outside the freeze, its fields in range: a new role for a node that
a position or zone names gives REFUSED-STATE, a second LINE-SENSOR, BREAKER or CHANGEOVER-SWITCH gives DUPLICATE. An unnamed ABSENT
node takes role and period (at most 5000), forgets its declared values and has an ANNOUNCE-REQUEST queued where R115 and R126 leave
room; a reload of its role for a PRESENT or SILENT node sets the period alone. CLEAR_ENTRY_NODE of an unnamed node sets role NONE,
period 0 and ABSENT. -/
def Obligations.NodeLoadAndClear : Prop :=
  ∀ (s : State) (q : Byte) (n : Node) (nw : Word) (rest : List Word), Decides s → frozen s = false → nw.toNat = number n →
    let free : Prop := posNaming? s n = none ∧ zoneOfNode? s n = none
    (∀ (role : Role) (rw period : Word), loadableRole? rw = some role →
      let load : Instr := .loadEntryNode q (nw :: rw :: period :: rest)
      let ms := min 5000 period.toNat
      let second : Prop := (role = .lineSensor ∨ role = .breaker ∨ role = .changeoverSwitch) ∧
        ∃ m : Node, m ≠ n ∧ s.nodes[m].role = role
      let ok : Train := answered s q 2 .ok [word (number n), rw, word ms]
      (s.nodes[n].role ≠ role → ¬ free → exec load s = .next (follows s { s with train := answered s q 2 .refusedState [] })) ∧
      (s.nodes[n].role = role ∨ free → second →
        exec load s = .next (follows s { s with train := answered s q 2 .duplicate [] })) ∧
      (s.nodes[n].role ≠ role → free → ¬ second → s.nodes[n].presence = .absent →
        let loaded := upd s.nodes n fun r => { r with
          role := role, period := ms, declRole := none, declClass := none, ageRuns := false }
        let room : Prop := granted s = false ∧ (∀ e ∈ s.roof.classB, e.node ≠ n) ∧ s.roof.classB.length < 16
        (room → exec load s = .next (follows s { s with
          nodes := loaded, train := ok, serial := s.serial + 1,
          roof := { s.roof with classB := s.roof.classB ++ [⟨n, .announceRequest, s.serial⟩] } })) ∧
        (¬ room → exec load s = .next (follows s { s with nodes := loaded, train := ok }))) ∧
      (s.nodes[n].role = role → ¬ second → s.nodes[n].presence = .present ∨ s.nodes[n].presence = .silent →
        exec load s = .next (follows s { s with
          nodes := upd s.nodes n fun r => { r with period := ms }, train := ok }))) ∧
    (free → exec (.clearEntryNode q (nw :: rest)) s = .next (follows s { s with
      nodes := upd s.nodes n fun r => { r with
        role := .noRole, period := 0, presence := .absent, declRole := none, declClass := none },
      train := answered s q 4 .ok [] })) ∧
    (s.nodes[n].role ≠ .noRole → ¬ free →
      exec (.clearEntryNode q (nw :: rest)) s = .next (follows s { s with train := answered s q 4 .refusedState [] }))

/-- Loads and clears of the configuration set. LOAD_ENTRY_CONFIG of an item sets it to its value, clamped where it is numeric, and
CLEAR_ENTRY_CONFIG to its default; each is answered OK with item, channel and value. The channel word is 1 to 4 for the lowering
rank, and any word for the other 23 items: 11.4 gives 0 there, and that another word is ignored and answered as 0 is the model's
choice (log 30). Every other item, and of the channels every field but the rank and, for contact loss, the limit and counter of
raised channels, stays: RAISING and UP take the new limit, and UP clears its counter. An on-or-off item given another value is
refused with BAD-ENTRY. -/
def Obligations.ConfigLoadAndClear : Prop :=
  ∀ (s : State) (q : Byte) (i : ConfigItem) (c : Chan) (iw cw hi lo : Word) (rest : List Word), Decides s →
    configItem? iw = some i → (i = .rank → cw.toNat = number c) →
    let key : List Word := [iw, if i = .rank then cw else 0]
    let takes (v : State) (x : Nat) : Prop :=
      i.get v (some c) = x ∧
      (∀ j d, ¬ (j = i ∧ (i = .rank → d = some c)) → j.get v d = j.get s d) ∧
      (∀ d : Chan, v.channels[d] = { s.channels[d] with
        rank := v.channels[d].rank,
        limit := if i = .contactLoss ∧ raised s d = true then
            (if s.channels[d].duty = .scrape then min 4080 (32 * x) else 16 * x) else s.channels[d].limit,
        counter := if i = .contactLoss ∧ s.channels[d].state = .up then 0 else s.channels[d].counter }) ∧
      v.recog = s.recog ∧ v.systems = s.systems ∧ v.positions = s.positions ∧ v.roleMap = s.roleMap ∧ v.co = s.co ∧
      v.zones = s.zones ∧ v.iceSeason = s.iceSeason ∧ v.stagger = s.stagger ∧ v.scrape = s.scrape ∧ v.nodes = s.nodes ∧
      v.roofCheckFail = s.roofCheckFail ∧ v.announceRetry = s.announceRetry ∧ v.takeover = s.takeover ∧ v.roof = s.roof ∧
      v.fwd = s.fwd ∧ v.now = s.now ∧ v.serial = s.serial
    (∀ x, (∃ a b, i.range? = some (a, b) ∧ x = max a (min b (wide hi lo))) ∨ (i.range? = none ∧ x = wide hi lo ∧ x ≤ 1) →
      ∃ v, exec (.loadEntryConfig q (iw :: cw :: hi :: lo :: rest)) s = .next (follows s v) ∧ takes v x ∧
        v.train = answered s q 2 .ok (key ++ [BitVec.ofNat 16 (x / 65536), BitVec.ofNat 16 x])) ∧
    (i.range? = none → 2 ≤ wide hi lo → exec (.loadEntryConfig q (iw :: cw :: hi :: lo :: rest)) s =
      .next (follows s { s with train := answered s q 2 .badEntry [] })) ∧
    ∃ v, exec (.clearEntryConfig q (iw :: cw :: rest)) s = .next (follows s v) ∧ takes v i.default ∧
      v.train = answered s q 4 .ok (key ++ [BitVec.ofNat 16 (i.default / 65536), BitVec.ofNat 16 i.default])

/-- A start of the power path raises the selected collector. POWER_UP(k) in IDLE or COASTING, CHANGEOVER(k) in IDLE, SECTION_CLEAR
in COASTING with k ordered: with no channel eligible for k the answer is NO-COLLECTOR and nothing changes; else the lowest eligible
channel, one whose strip zone is not ICE-RISK first, is RAISING with duty COLLECT, counter 0, its raise window (doubled on ICE-RISK)
and its sustain timer running; RAISE takes its class B place, LOWER leaves and SUSTAIN takes the class A slot; k is ordered and
active, the controller RAISING. During a grant the answer is HELD (log 8). -/
def Obligations.PathStartsWithASelectedCollector : Prop :=
  ∀ (s : State) (q : Byte) (k : SysId) (w : Word) (rest : List Word) (cmd : Instr) (code : Byte), Decides s →
    sysEntry? s k ≠ none →
    (cmd = .powerUp q (w :: rest) ∧ code = 16 ∧ w.toNat = number k ∧ (s.co.state = .idle ∨ s.co.state = .coasting)) ∨
      (cmd = .changeover q (w :: rest) ∧ code = 18 ∧ w.toNat = number k ∧ s.co.state = .idle) ∨
      (cmd = .sectionClear q rest ∧ code = 20 ∧ s.co.ordered = some k ∧ s.co.state = .coasting) →
    let eligible (d : Chan) : Prop := s.channels[d].state = .down ∧ ∃ a e, s.positions[s.roleMap[d]].assigned = some a ∧
      s.nodes[a.node].presence = .present ∧ sysEntry? s k = some e ∧ e.mask.getLsbD a.cls.val = true
    let risk (d : Chan) : Prop := ∃ a z, s.positions[s.roleMap[d]].assigned = some a ∧ a.strip = some z ∧
      s.zones[z].iceRisk = true
    ((∀ d, ¬ eligible d) → exec cmd s = .next (follows s { s with train := answered s q code .noCollector [] })) ∧
    (∀ (c : Chan) (a : PosAssign) (l : List BEntry), eligible c →
      (¬ risk c ∧ ∀ d, d < c → eligible d → risk d) ∨ ((∀ d, eligible d → risk d) ∧ ∀ d, d < c → ¬ eligible d) →
      s.positions[s.roleMap[c]].assigned = some a →
      (∀ d, d ≠ c → ¬ (raised s d = true ∧ s.channels[d].duty = .collect)) →
      insertB ⟨a.node, .raise c, s.serial⟩ s.roof.classB = some l →
      (granted s = false → ∀ window, (risk c → window = 2 * s.settings.raiseWindow) → (¬ risk c → window = s.settings.raiseWindow) →
        exec cmd s = .next (follows s { s with
          channels := upd s.channels c fun r => { r with
            state := .raising, duty := .collect, counter := 0, limit := 16 * s.settings.contactLoss,
            phase := some (.raiseWindow, window), sustain := some 100, raiseSerial := some s.serial },
          co := { s.co with
            state := .raising, ordered := some k, active := some k, collector := some c, substituteUsed := false },
          roof := { s.roof with
            classB := l,
            classA := upd s.roof.classA a.node fun h => if h = none ∨ h = some .lower then some .sustain else h },
          serial := s.serial + 1, train := answered s q code .ok [] })) ∧
      (granted s = true → (∀ e ∈ s.roof.classB, e.node ≠ a.node) →
        exec cmd s = .next (follows s { s with
          takeover := { s.takeover with held := true }, train := answered s q code .held [] })))

/-- Power path orders that queue no frame. LOCKOUT: POWER_DOWN is OK without change, the other four LOCKED-OUT. A system not in the
table is BAD-ENTRY. RAISING to CLOSING, OPENING and LOWERING: POWER_UP and CHANGEOVER of the ordered system OK, of another BUSY;
NEUTRAL_AHEAD BUSY. SECTION_CLEAR outside COASTING is REFUSED-STATE. IDLE, COASTING, NEUTRAL and POWERED with the system active
change the record as their rows say. CLEAR_LOCKOUT is REFUSED-STATE outside LOCKOUT, BUSY with a channel raised or LOWERING, and
else enters IDLE with the data of R178 (the LOCKED channels in channel order: the model's choice, log 55). -/
def Obligations.PathOrdersThatQueueNoFrame : Prop :=
  ∀ (s : State) (q : Byte) (w : Word) (rest : List Word), Decides s →
    let told (c : Byte) (r : Result) (co : Changeover) (d : List Word) : Host.Outcome State Fault Refusal :=
      .next (follows s { s with co := co, train := answered s q c r d })
    let idle : Changeover := { s.co with
      state := .idle, active := none, ordered := none, collector := none, plan := .noPlan, phase := none, tripQuiet := none,
      trips := 0, neutralAnnounced := false, recloseGranted := false, substituteUsed := false, graded := false }
    let bound : Prop := s.co.state = .raising ∨ s.co.state = .recognizing ∨ s.co.state = .switching ∨ s.co.state = .closing ∨
      s.co.state = .opening ∨ s.co.state = .lowering
    let here := s.co.state.code
    (s.co.state = .lockout →
      exec (.powerUp q (w :: rest)) s = told 16 .lockedOut s.co [] ∧
      exec (.changeover q (w :: rest)) s = told 18 .lockedOut s.co [] ∧
      exec (.neutralAhead q rest) s = told 19 .lockedOut s.co [] ∧ exec (.sectionClear q rest) s = told 20 .lockedOut s.co [] ∧
      exec (.powerDown q rest) s = told 17 .ok s.co []) ∧
    (s.co.state ≠ .lockout → (∀ k, w.toNat = number k → sysEntry? s k = none) →
      exec (.powerUp q (w :: rest)) s = told 16 .badEntry s.co [] ∧
      exec (.changeover q (w :: rest)) s = told 18 .badEntry s.co []) ∧
    (bound → exec (.neutralAhead q rest) s = told 19 .busy s.co []) ∧
    (s.co.state ≠ .coasting → s.co.state ≠ .lockout → exec (.sectionClear q rest) s = told 20 .refusedState s.co []) ∧
    (s.co.state = .idle ∨ s.co.state = .coasting → exec (.neutralAhead q rest) s = told 19 .ok s.co []) ∧
    (s.co.state = .neutral → exec (.neutralAhead q rest) s = told 19 .ok { s.co with neutralAnnounced := true } []) ∧
    (s.co.state = .idle → exec (.powerDown q rest) s = told 17 .ok { s.co with ordered := none } []) ∧
    (s.co.state = .opening ∨ s.co.state = .lowering →
      exec (.powerDown q rest) s = told 17 .ok { s.co with ordered := none, plan := .idle } []) ∧
    (s.co.state = .coasting → s.scrape.run = .noRun → (∀ c, raised s c = false) →
      exec (.powerDown q rest) s = told 17 .ok idle []) ∧
    (∀ k, w.toNat = number k → sysEntry? s k ≠ none →
      (bound → ∀ r, r = (if s.co.ordered = some k then Result.ok else .busy) →
        exec (.powerUp q (w :: rest)) s = told 16 r s.co [] ∧ exec (.changeover q (w :: rest)) s = told 18 r s.co []) ∧
      (s.co.state = .coasting → exec (.changeover q (w :: rest)) s = told 18 .ok { s.co with ordered := some k } []) ∧
      (s.co.state = .powered → s.co.active = some k →
        exec (.powerUp q (w :: rest)) s = told 16 .ok s.co [] ∧ exec (.changeover q (w :: rest)) s = told 18 .ok s.co []) ∧
      (s.co.state = .neutral → (∀ j, s.recog.result ≠ .system j) →
        exec (.changeover q (w :: rest)) s = told 18 .ok { s.co with ordered := some k } [] ∧
        exec (.powerUp q (w :: rest)) s = told 16 .ok { s.co with
          ordered := some k, recloseGranted := if s.co.active = some k then true else s.co.recloseGranted } [])) ∧
    (s.co.state ≠ .lockout → exec (.clearLockout q rest) s = told 21 .refusedState s.co [here]) ∧
    (s.co.state = .lockout → (∃ c, moving s c = true) →
      exec (.clearLockout q rest) s = told 21 .busy s.co [here, chanSet (moving s)]) ∧
    (s.co.state = .lockout → (∀ c, moving s c = false) → s.scrape.run = .noRun →
      exec (.clearLockout q rest) s = told 21 .ok { idle with lockoutCause := .noCause }
        ([s.co.lockoutCause.code, if s.co.openRep = none then 0 else 1, BreakerPos.code s.co.lastBreaker] ++
          (List.finRange 4).flatMap fun c => if s.channels[c].state = .locked then
            [word (number c), s.channels[c].lastFault.code, PanPos.code s.positions[s.roleMap[c]].lastPos] else []))

/-- Orders that leave POWERED open the breaker first. In POWERED outside a grant, with breaker node b: POWER_DOWN (plan IDLE,
ordered NONE), NEUTRAL_AHEAD (plan NEUTRAL, neutral-announced), POWER_UP and CHANGEOVER of another system in the table (plan
NEUTRAL, ordered) and the expiry of the silence timer (as POWER_DOWN, with TRAIN-SILENCE queued; that it carries the setting in
force at the expiry is the model's choice, log 21) enter OPENING: open window running, breaker sustain and trip quiet timer off,
OPEN in b's class A slot. HEATING zones pause through the gate that closes, every channel and the rest of the record stay, and
without a HEATING zone nothing else changes. -/
def Obligations.OrdersOpenTheBreakerInPowered : Prop :=
  ∀ (s : State) (q : Byte) (w : Word) (rest : List Word) (k : SysId) (b : Node) (cmd : Instr) (co : Changeover) (plan : Plan)
    (train : Train), Decides s → s.co.state = .powered → granted s = false → nodeOf? s .breaker = some b →
    (cmd = .powerDown q rest ∧ train = answered s q 17 .ok [] ∧ co = { s.co with ordered := none } ∧ plan = .idle) ∨
      (cmd = .neutralAhead q rest ∧ train = answered s q 19 .ok [] ∧ co = { s.co with neutralAnnounced := true } ∧
        plan = .neutral) ∨
      ((cmd = .powerUp q (w :: rest) ∧ train = answered s q 16 .ok [] ∨
          cmd = .changeover q (w :: rest) ∧ train = answered s q 18 .ok []) ∧
        w.toNat = number k ∧ sysEntry? s k ≠ none ∧ s.co.active ≠ some k ∧ co = { s.co with ordered := some k } ∧
        plan = .neutral) ∨
      (cmd = .trainLinkSilenceExpiry ∧ s.train.silence ≠ none ∧ co = { s.co with ordered := none } ∧ plan = .idle ∧
        train = noteNotice (.trainSilence s.settings.silenceTime .powered) { s.train with silence := none, silent := true }) →
    ∃ v, exec cmd s = .next (follows s v) ∧
      v.co = { co with
        state := .opening, plan := plan, sustain := none, tripQuiet := none,
        phase := some (.openWindow, s.settings.openWindow) } ∧
      v.roof.classA = s.roof.classA.set b (some .opn) ∧
      (∀ z : Zone, v.zones[z] = { s.zones[z] with
        state := if gateOpen s = true ∧ s.zones[z].state = .heating then .paused else s.zones[z].state }) ∧
      v.stagger = (if gateOpen s = true then none else s.stagger) ∧
      v.channels = s.channels ∧ v.recog = s.recog ∧ v.systems = s.systems ∧ v.positions = s.positions ∧ v.roleMap = s.roleMap ∧
      v.scrape = s.scrape ∧ v.nodes = s.nodes ∧ v.fwd = s.fwd ∧ v.settings = s.settings ∧ v.takeover = s.takeover ∧
      ((∀ z : Zone, s.zones[z].state ≠ .heating) →
        v.roof = { s.roof with classA := v.roof.classA } ∧ v.train = train ∧ v.serial = s.serial)

/-- CHANNEL_LOWER, CHANNEL_RESET and LOWERING_ORDER by the channel's state. A channel with duty COLLECT in CLOSING, POWERED or
NEUTRAL refuses CHANNEL_LOWER and CHANNEL_RESET with REFUSED-STATE, and a grant refuses with HELD what would lower a channel. Else a
raised channel enters LOWERING with cause ORDER or RESET: LOWER takes its class A slot, its RAISE is withdrawn. The scrape channel's
run then ends with reason CHANNEL and SCRAPE-END, the time of the run in ms (the model's choice, log 36). The collector in RAISING,
RECOGNIZING or SWITCHING is lost: with the substitute used, or no channel eligible, the controller enters IDLE and queues NO-
COLLECTOR (shown with no other channel raised and no run); else the selected channel is raised as substitute and the controller is
RAISING. A reset also clears counter and fault, frees COOLDOWN and LOCKED-and-down or unbound channels to DOWN, lowers a LOCKED
channel not reported DOWN, and empties the slot. LOWERING_ORDER out of 1 to 7 is BAD-ENTRY; selecting one scraping channel it lowers
it and ends the run; selecting the collector in POWERED alone it opens with plan COASTING. -/
def Obligations.ChannelOrdersByState : Prop :=
  ∀ (s : State) (q : Byte) (c : Chan) (w : Word) (rest : List Word), Decides s → w.toNat = number c →
    let r := s.channels[c]
    let live : Prop := r.duty = .collect ∧ (s.co.state = .closing ∨ s.co.state = .powered ∨ s.co.state = .neutral)
    let plain (x : Byte) (o : Result) : Host.Outcome State Fault Refusal :=
      .next (follows s { s with train := answered s q x o [] })
    let held (x : Byte) : Host.Outcome State Fault Refusal :=
      .next (follows s { s with takeover := { s.takeover with held := true }, train := answered s q x .held [] })
    let clean : Channel := { r with counter := 0, lastFault := .noFault }
    let rest' : Channel := { clean with state := .down, duty := .noDuty, phase := none, sustain := none, lowerRep := none }
    let at' := s.positions[s.roleMap[c]].lastPos
    let away : Prop := s.co.collector = some c → s.co.state ≠ .lowering
    let sole (g : Word) : Prop := 1 ≤ g.toNat ∧ g.toNat ≤ 7 ∧
      ∀ d, (raised s d = true ∧ g.toNat ≤ s.channels[d].rank) ↔ d = c
    (live → exec (.channelLower q (w :: rest)) s = plain 24 .refusedState ∧
      exec (.channelReset q (w :: rest)) s = plain 23 .refusedState) ∧
    (¬ live → r.state = .down ∨ r.state = .cooldown ∨ r.state = .locked →
      exec (.channelLower q (w :: rest)) s = plain 24 .refusedState) ∧
    (¬ live → s.positions[s.roleMap[c]].assigned = none → r.state = .cooldown ∨ r.state = .locked → away →
      exec (.channelReset q (w :: rest)) s = .next (follows s { s with
        channels := s.channels.set c rest', train := answered s q 23 .ok [] })) ∧
    (∀ a : PosAssign, s.positions[s.roleMap[c]].assigned = some a →
      let freed (r : Channel) : State := { s with
        channels := s.channels.set c r, train := answered s q 23 .ok [],
        roof := { s.roof with classA := s.roof.classA.set a.node none } }
      let lowered (r : Channel) : State := { s with
        channels := s.channels.set c r, roof := loweredQueues a.node s.roof, train := heard s }
      (¬ live →
        (r.state = .lowering → exec (.channelLower q (w :: rest)) s = plain 24 .ok ∧
          exec (.channelReset q (w :: rest)) s = .next (follows s (freed { clean with cause := some .reset }))) ∧
        (r.state = .down → exec (.channelReset q (w :: rest)) s = .next (follows s (freed clean))) ∧
        (r.state = .cooldown ∨ (r.state = .locked ∧ at' = some .down) → away →
          exec (.channelReset q (w :: rest)) s = .next (follows s (freed rest'))) ∧
        (r.state = .locked → at' ≠ some .down →
          (granted s = true → exec (.channelReset q (w :: rest)) s = held 23) ∧
          (granted s = false → exec (.channelReset q (w :: rest)) s = .next (follows s
            { lowered (loweredRecord s .reset clean) with train := answered s q 23 .ok [] }))) ∧
        (r.state = .raising ∨ r.state = .up → granted s = true →
          exec (.channelLower q (w :: rest)) s = held 24 ∧ exec (.channelReset q (w :: rest)) s = held 23) ∧
        (r.state = .raising ∨ r.state = .up → granted s = false → ∀ (cmd : Instr) (code : Byte) (x : Channel),
          (cmd = .channelLower q (w :: rest) ∧ code = 24 ∧ x = loweredRecord s .order r) ∨
            (cmd = .channelReset q (w :: rest) ∧ code = 23 ∧ x = loweredRecord s .reset clean) →
          let told (v : State) : Host.Outcome State Fault Refusal :=
            .next (follows s { v with train := responded v.train q code .ok [] })
          (s.co.collector ≠ some c → s.scrape.chan ≠ some c → exec cmd s = told (lowered x)) ∧
          (s.co.collector ≠ some c → s.scrape.chan = some c → s.scrape.run ≠ .noRun → exec cmd s = told { lowered x with
            scrape := runOver s, train := noteNotice (runOverNotice s c .channel) (heard s) }) ∧
          (∀ k, Collects s c k →
            (NoSubstitute s c k → exec cmd s = told (lostToIdle s (lowered x))) ∧
            (∀ d b window l, Substitute s c k d b window →
              insertB ⟨b.node, .raise d, s.serial⟩ (loweredQueues a.node s.roof).classB = some l →
              exec cmd s = told (lostToSubstitute (lowered x) d b window l))))) ∧
      (∀ g : Word, sole g → r.duty ≠ .collect → s.co.collector ≠ some c → s.scrape.run ≠ .noRun → s.scrape.chan = some c →
        exec (.loweringOrder q (g :: rest)) s = .next (follows s { lowered (loweredRecord s .graded r) with
          scrape := runOver s,
          train := responded (noteNotice (runOverNotice s c .channel) (heard s)) q 22 .ok [BitVec.ofNat 16 (2 ^ c.val)] }))) ∧
    (∀ g : Word, g.toNat = 0 ∨ 7 < g.toNat → exec (.loweringOrder q (g :: rest)) s = plain 22 .badEntry) ∧
    (∀ g : Word, 1 ≤ g.toNat → g.toNat ≤ 7 → (∀ d, ¬ (raised s d = true ∧ g.toNat ≤ s.channels[d].rank)) →
      exec (.loweringOrder q (g :: rest)) s = .next (follows s { s with train := answered s q 22 .ok [0] })) ∧
    (∀ (g : Word) (b : Node), sole g → r.duty = .collect → s.co.state = .powered → (∀ z : Zone, s.zones[z].state ≠ .heating) →
      nodeOf? s .breaker = some b →
      exec (.loweringOrder q (g :: rest)) s = .next (follows s { s with
        co := { s.co with
          state := .opening, plan := .coasting, graded := true, sustain := none, tripQuiet := none,
          phase := some (.openWindow, s.settings.openWindow) },
        stagger := if gateOpen s = true then none else s.stagger,
        roof := { s.roof with classA := s.roof.classA.set b (some .opn) },
        train := answered s q 22 .ok [BitVec.ofNat 16 (2 ^ c.val)] }))

/-- REMAP, ICE_SEASON, DEPOT_ACCESS, NOTICE_FILTER and PART_RESET. REMAP with a channel not DOWN is REFUSED-STATE, with one position
twice BAD-ENTRY, else the map is replaced. ICE_SEASON on starts the pass timers of assigned season-only zones in full, off stops
them, and unchanged does nothing (no run in progress). DEPOT_ACCESS sets the access. NOTICE_FILTER sets the option of a kind;
changes only for a kind other than LINE-CHANGE and CHANNEL-FAULT is BAD-ENTRY. PART_RESET is answered OK and pends; during a grant
with a channel not DOWN it is HELD. -/
def Obligations.OrdersThatSetTheirOwnRecord : Prop :=
  ∀ (s : State) (q : Byte) (rest : List Word), Decides s →
    (∀ (m : Vector Pos 4) (a b c d : Word), a.toNat = number m[0] → b.toNat = number m[1] → c.toNat = number m[2] →
      d.toNat = number m[3] →
      ((∃ c : Chan, s.channels[c].state ≠ .down) → exec (.remap q (a :: b :: c :: d :: rest)) s =
        .next (follows s { s with train := answered s q 25 .refusedState [] })) ∧
      ((∀ c : Chan, s.channels[c].state = .down) → ¬ m.toList.Nodup → exec (.remap q (a :: b :: c :: d :: rest)) s =
        .next (follows s { s with train := answered s q 25 .badEntry [] })) ∧
      ((∀ c : Chan, s.channels[c].state = .down) → m.toList.Nodup → exec (.remap q (a :: b :: c :: d :: rest)) s =
        .next (follows s { s with roleMap := m, train := answered s q 25 .ok [a, b, c, d] }))) ∧
    (∀ on : Bool, s.scrape.run = .noRun → s.scrape.chan = none →
      (s.iceSeason = on → exec (.iceSeason q ((if on then 1 else 0) :: rest)) s =
        .next (follows s { s with train := answered s q 26 .ok [] })) ∧
      (s.iceSeason ≠ on → exec (.iceSeason q ((if on then 1 else 0) :: rest)) s = .next (follows s { s with
        iceSeason := on, train := answered s q 26 .ok [],
        zones := s.zones.map fun r => { r with
          passTimer := if r.seasonOnly then (if on ∧ r.node ≠ none then some (r.interval * 1000) else none)
            else r.passTimer } }))) ∧
    (∀ on : Bool, exec (.depotAccess q ((if on then 1 else 0) :: rest)) s = .next (follows s { s with
      takeover := { s.takeover with access := on }, train := answered s q 28 .ok [] })) ∧
    (∀ (k : Fin 19) (kw : Word) (on : Bool), kw.toNat = number k →
      (on = false ∨ number k = 1 ∨ number k = 6 → exec (.noticeFilter q (kw :: (if on then 1 else 0) :: rest)) s =
        .next (follows s { s with train := { answered s q 29 .ok [] with filter := s.train.filter.set k on } })) ∧
      (on = true → number k ≠ 1 → number k ≠ 6 → exec (.noticeFilter q (kw :: 1 :: rest)) s =
        .next (follows s { s with train := answered s q 29 .badEntry [] }))) ∧
    (granted s = true → (∃ c : Chan, s.channels[c].state ≠ .down) → exec (.partReset q rest) s = .next (follows s { s with
      takeover := { s.takeover with held := true }, train := answered s q 30 .held [] })) ∧
    (¬ (granted s = true ∧ ∃ c : Chan, s.channels[c].state ≠ .down) → exec (.partReset q rest) s = .next (follows s { s with
      train := { answered s q 30 .ok [] with resetPending := true } }))

/-- SCRAPE starts a run, and the scrape timer ends it. SCRAPE with a run in progress is OK without change, outside POWERED or the
ice season REFUSED-STATE, with no channel NO-COLLECTOR. Else the highest-numbered eligible channel without duty COLLECT is RAISING
with duty SCRAPE, limit 32 L at most 4080, and the run RAISING with origin ORDER (its strip zone none). SCRAPE_TIMER_EXPIRY while
the timer runs, the channel UP and no collector: the run ends with SCRAPE-END and reason DURATION, the time of the run in ms (the
model's choice, log 36), and the channel enters LOWERING with cause SCRAPE-END; with the timer stopped nothing changes (log 3). -/
def Obligations.ScrapeRunsStartAndEnd : Prop :=
  ∀ s : State, s.owed = [] →
    (∀ (q : Byte) (rest : List Word) (k : SysId), Decides s →
      let eligible (d : Chan) : Prop := s.channels[d].state = .down ∧ s.channels[d].duty ≠ .collect ∧
        ∃ a e, s.positions[s.roleMap[d]].assigned = some a ∧ s.nodes[a.node].presence = .present ∧ sysEntry? s k = some e ∧
          e.mask.getLsbD a.cls.val = true
      (s.scrape.run ≠ .noRun → exec (.scrape q rest) s = .next (follows s { s with train := answered s q 27 .ok [] })) ∧
      (s.scrape.run = .noRun → s.co.state ≠ .powered ∨ s.iceSeason = false →
        exec (.scrape q rest) s = .next (follows s { s with train := answered s q 27 .refusedState [] })) ∧
      (s.scrape.run = .noRun → s.co.state = .powered → s.iceSeason = true → s.co.active = some k →
        ((∀ d, ¬ eligible d) → exec (.scrape q rest) s =
          .next (follows s { s with train := answered s q 27 .noCollector [] })) ∧
        (∀ (c : Chan) (a : PosAssign) (l : List BEntry), eligible c → (∀ d, c < d → ¬ eligible d) → granted s = false →
          s.positions[s.roleMap[c]].assigned = some a → a.strip = none →
          (∀ d, d ≠ c → ¬ (raised s d = true ∧ s.channels[d].duty = .scrape)) →
          insertB ⟨a.node, .raise c, s.serial⟩ s.roof.classB = some l →
          exec (.scrape q rest) s = .next (follows s { s with
            scrape := { s.scrape with run := .raising, chan := some c, origin := .order },
            channels := upd s.channels c fun r => { r with
              state := .raising, duty := .scrape, counter := 0, limit := min 4080 (32 * s.settings.contactLoss),
              phase := some (.raiseWindow, s.settings.raiseWindow), sustain := some 100, raiseSerial := some s.serial },
            roof := { s.roof with
              classB := l,
              classA := upd s.roof.classA a.node fun h => if h = none ∨ h = some .lower then some .sustain else h },
            serial := s.serial + 1, train := answered s q 27 .ok [word (number c)] })))) ∧
    (s.scrape.timer = none → exec .scrapeTimerExpiry s = .next (follows s s)) ∧
    (∀ (c : Chan) (a : PosAssign), s.scrape.timer ≠ none → s.scrape.run ≠ .noRun → s.scrape.chan = some c →
      s.channels[c].state = .up → s.co.collector ≠ some c → s.positions[s.roleMap[c]].assigned = some a →
      exec .scrapeTimerExpiry s = .next (follows s { s with
        scrape := { s.scrape with
          run := .noRun, chan := none, forcedZone := none, timer := none, lastEnd := some s.now, since := none },
        channels := upd s.channels c fun r => { r with
          state := .lowering, duty := .noDuty, cause := some .scrapeEnd,
          phase := some (.lowerWindow, s.settings.lowerWindow), sustain := none, lowerRep := some 100 },
        roof := { s.roof with
          classA := s.roof.classA.set a.node (some .lower),
          classB := s.roof.classB.filter fun e => ! (decide (e.node = a.node) && e.cmd.isRaise) },
        train := noteNotice (.scrapeEnd c .duration s.scrape.origin s.scrape.run
          (match s.scrape.since with | none => 0 | some t => s.now - t) (heated s)) s.train }))

/-- A node command is dropped, refused or placed in class C. The deciding window is the one covering the node at the lowest level.
No window: NO-ROUTE. DROP: discarded and counted. PASS and CHECK: code below 64 RESERVED-CODE, role NONE NO-ROUTE, MISMATCH, SILENT,
a grant HELD; then for CHECK no interlock entry of role and code NO-RULE, one whose state set, channel or zone condition fails
INTERLOCK; then 8 entries in class C FULL. A refusal is counted and answered with node and code, for NO-RULE and INTERLOCK also the
changeover state and the slot. Else the command joins class C and is counted, unanswered. -/
def Obligations.NodeCommandIsDecided : Prop :=
  ∀ (s : State) (n : Node) (q c : Byte) (p : List Word), Decides s →
    let covers (l : Nat) (i : Fin 16) (w : WindowEntry) : Prop :=
      s.fwd.windows[i] = some w ∧ w.level = l ∧ w.first ≤ n ∧ n ≤ w.last
    let refused (r : Result) (extra : List Word) : Host.Outcome State Fault Refusal := .next (follows s { s with
      train := answered s q c r ([word (number n), c.zeroExtend 16] ++ extra),
      fwd := { s.fwd with refused := min 65535 (s.fwd.refused + 1) } })
    let placed : Host.Outcome State Fault Refusal := if 8 ≤ s.roof.classC.length then refused .full [] else
      .next (follows s { s with
        train := heard s, fwd := { s.fwd with passed := min 65535 (s.fwd.passed + 1) },
        roof := { s.roof with classC := s.roof.classC ++ [⟨n, c, p, q⟩] } })
    let result := exec (.nodeCommand n q c p) s
    ((∀ l i w, 1 ≤ l → l ≤ 3 → ¬ covers l i w) → result = refused .noRoute []) ∧
    (∀ l i w, 1 ≤ l → l ≤ 3 → covers l i w → (∀ j x, covers l j x → x = w) → (∀ m j x, 1 ≤ m → m < l → ¬ covers m j x) →
      (w.down = .drop → result = .next (follows s { s with
        train := heard s, fwd := { s.fwd with discarded := min 65535 (s.fwd.discarded + 1) } })) ∧
      (w.down ≠ .drop →
        (c.toNat < 64 → result = refused .reservedCode []) ∧
        (64 ≤ c.toNat → s.nodes[n].role = .noRole → result = refused .noRoute []) ∧
        (64 ≤ c.toNat → s.nodes[n].role ≠ .noRole →
          (s.nodes[n].presence = .mismatch → result = refused .mismatch []) ∧
          (s.nodes[n].presence = .silent → result = refused .silent []) ∧
          (s.nodes[n].presence = .absent ∨ s.nodes[n].presence = .present →
            (granted s = true → result = refused .held []) ∧
            (granted s = false →
              let key (e : InterlockEntry) : Prop := e.role = s.nodes[n].role ∧ e.code = c
              (w.down = .pass → result = placed) ∧
              (w.down = .chk → (∀ (j : Fin 32) e, s.fwd.interlocks[j] = some e → ¬ key e) →
                result = refused .noRule [s.co.state.code]) ∧
              (w.down = .chk → ∀ (j : Fin 32) e, s.fwd.interlocks[j] = some e → key e →
                (∀ (i : Fin 32) x, s.fwd.interlocks[i] = some x → key x → i = j) →
                let holds : Prop := e.states.getLsbD s.co.state.value = true ∧
                  (e.chan = .allDown → ∀ d, moving s d = false) ∧
                  (e.chan = .noCollector → ∀ d : Chan, s.channels[d].duty ≠ .collect) ∧
                  (e.zone = .noneHeating → ∀ z : Zone, s.zones[z].state ≠ .heating)
                (holds → result = placed) ∧
                (¬ holds → result = refused .interlock [s.co.state.code, word (number j)])))))))

/-- Edges of the takeover request. TAKEOVER_REQUEST_ASSERTED with the takeover NONE and the request off: access on, IDLE, and every
channel DOWN, COOLDOWN or LOCKED with its pan DOWN or unbound give GRANTED with an IDLE roof transmitter, which then picks nothing,
and PENDING during a frame; else only the request is recorded and the picks follow. TAKEOVER_REQUEST_DEASSERTED ends PENDING, and in
IDLE ends GRANTED with the held-refusal flag cleared and, no configured node being ABSENT, nothing else; the picks follow. -/
def Obligations.TakeoverPinAndGrant : Prop :=
  ∀ s : State, s.owed = [] →
    (s.takeover.state = .noTakeover → s.takeover.request = false →
      let met : Prop := s.takeover.access = true ∧ s.co.state = .idle ∧ ∀ c : Chan, s.channels[c].state = .down ∨
        s.channels[c].state = .cooldown ∨ (s.channels[c].state = .locked ∧
          (s.positions[s.roleMap[c]].assigned = none ∨ s.positions[s.roleMap[c]].lastPos = some .down))
      let asked : Takeover := { s.takeover with request := true }
      (met → s.roof.tx = none →
        exec .takeoverRequestAsserted s = .next (trainPick { s with takeover := { asked with state := .granted } })) ∧
      (met → s.roof.tx ≠ none →
        exec .takeoverRequestAsserted s = .next (trainPick { s with takeover := { asked with state := .pending } })) ∧
      (¬ met → exec .takeoverRequestAsserted s = .next (trainPick (roofPick { s with takeover := asked })))) ∧
    (s.takeover.state = .noTakeover ∨ s.takeover.state = .pending ∨
        (s.takeover.state = .granted ∧ s.co.state = .idle ∧
          ∀ n : Node, s.nodes[n].role = .noRole ∨ s.nodes[n].presence ≠ .absent) →
      exec .takeoverRequestDeasserted s = .next (trainPick (roofPick { s with takeover := { s.takeover with
        request := false, state := .noTakeover,
        held := if s.takeover.state = .granted then false else s.takeover.held } })))

/-- Completions of the two transmitters, and the part reset. ROOF_TRANSMISSION_COMPLETE outside PENDING: the transmitter is IDLE; a
COMMAND advances its node's sequence, and one from class B or C, unless a part reset came between, fills the outstanding slot with a
50 ms deadline. TRAIN_TRANSMISSION_COMPLETE leaves that transmitter IDLE; where it sent the OK of a pending PART-RESET, the part
reset clears recognition, changeover (but for the last reports), mirror, class C, scrape run and scheduling, makes every node ABSENT
with its sequence kept, lowers the bound channels not DOWN (during a grant too, which is the model's choice, log 40), frees the
unbound resting ones, and keeps the configuration. With nothing in transmission a completion changes nothing (log 3). -/
def Obligations.TransmissionsComplete : Prop :=
  ∀ s : State, s.owed = [] →
    let sent (n : Node) (f : NodeRec → NodeRec) : Host.Outcome State Fault Refusal :=
      .next (follows s { s with nodes := upd s.nodes n f, roof := { s.roof with tx := none } })
    (s.roof.tx = none → exec .roofTransmissionComplete s = .next (follows s s)) ∧
    (∀ x, s.roof.tx = some x → s.takeover.state ≠ .pending →
      (∀ n f, x.item = .classA n f → exec .roofTransmissionComplete s =
        sent n fun r => if f = .sustain then r else { r with seq := r.seq + 1 }) ∧
      (∀ e, x.item = .classB e → exec .roofTransmissionComplete s = sent e.node fun r => { r with
        seq := r.seq + 1, slot := if x.fills then some ⟨e.cmd.code, x.seq, .part e.cmd e.serial, 50⟩ else r.slot }) ∧
      (∀ e, x.item = .classC e → exec .roofTransmissionComplete s = sent e.node fun r => { r with
        seq := r.seq + 1, slot := if x.fills then some ⟨e.code, x.seq, .train e.trainSeq, 50⟩ else r.slot })) ∧
    (s.train.tx = none → exec .trainTransmissionComplete s = .next (follows s s)) ∧
    (∀ x, s.train.tx = some x →
      let ok : Prop := s.train.resetPending = true ∧ ∃ r, x = .response r ∧ r.code = 30 ∧ r.result = .ok
      (¬ ok → exec .trainTransmissionComplete s = .next (follows s { s with train := { s.train with tx := none } })) ∧
      (ok → ∃ v, exec .trainTransmissionComplete s = .next (follows s v) ∧ v.owed = [] ∧
        v.recog = {} ∧ v.co = { ({} : Changeover) with lastBreaker := s.co.lastBreaker, lastSwitch := s.co.lastSwitch } ∧
        v.fwd = { s.fwd with mirror := [] } ∧ v.roof.classC = [] ∧ v.roof.bypass = 0 ∧ v.scrape = {} ∧
        v.train.responses = [] ∧ v.train.resetPending = false ∧ v.train.checkFail = s.train.checkFail ∧
        v.train.silence = some s.settings.silenceTime ∧ v.announceRetry = some 1000 ∧
        (∀ n : Node, v.nodes[n] = { s.nodes[n] with
          presence := .absent, age := 0, ageRuns := false, declRole := none, declClass := none, slot := none }) ∧
        (∀ c : Chan,
          let r := s.channels[c]
          let resting : Prop := r.state = .cooldown ∨ r.state = .locked
          let bound : Prop := s.positions[s.roleMap[c]].assigned ≠ none
          (r.state = .down → v.channels[c] = r) ∧
          (r.state = .raising ∨ r.state = .up ∨ r.state = .lowering ∨ (resting ∧ bound) → v.channels[c] = { r with
            state := .lowering, duty := .noDuty, counter := 0, lastFault := .reset, cause := some .reset,
            phase := some (.lowerWindow, s.settings.lowerWindow), sustain := none, lowerRep := some 100 }) ∧
          (resting → ¬ bound → v.channels[c] = { r with
            state := .down, duty := .noDuty, counter := 0, lastFault := .reset, phase := none, sustain := none,
            lowerRep := none })) ∧
        (∀ z : Zone, v.zones[z].state = .idle ∧ v.zones[z].owedPasses = 0 ∧ v.zones[z].due = none ∧ v.zones[z].accum = 0 ∧
          v.zones[z].iceRisk = false ∧ v.zones[z].lastReport = s.zones[z].lastReport) ∧
        v.systems = s.systems ∧ v.positions = s.positions ∧ v.roleMap = s.roleMap ∧ v.settings = s.settings ∧
        v.iceSeason = s.iceSeason))

/-- Timers that place a frame again or clear a count. While its timer runs: LOWER_REPETITION in LOWERING places LOWER,
CHANNEL_SUSTAIN in RAISING or UP and BREAKER_SUSTAIN place SUSTAIN where the slot is empty, OPEN_REPETITION places OPEN, each timer
restarting at 100 ms; the trip quiet timer clears the trip count; the announce retry restarts at 1000 ms and queues ANNOUNCE-REQUEST
for the one configured ABSENT node that has no class B entry, where there is room outside a grant; the silence timer in IDLE marks
the link silent, queues TRAIN-SILENCE with the setting in force (the model's choice, log 21) and clears the ordered system. A timer
that does not run changes nothing (log 3). -/
def Obligations.RepeatedFramesAndPlainTimers : Prop :=
  ∀ s : State, s.owed = [] →
    let goes (v : State) : Host.Outcome State Fault Refusal := .next (follows s v)
    (∀ (c : Chan) (a : PosAssign), s.positions[s.roleMap[c]].assigned = some a →
      (s.channels[c].state = .lowering → s.channels[c].lowerRep ≠ none → exec (.lowerRepetition c) s = goes { s with
        channels := upd s.channels c fun r => { r with lowerRep := some 100 },
        roof := { s.roof with classA := s.roof.classA.set a.node (some .lower) } }) ∧
      (s.channels[c].state = .raising ∨ s.channels[c].state = .up → s.channels[c].sustain ≠ none →
        exec (.channelSustainTimerExpiry c) s = goes { s with
          channels := upd s.channels c fun r => { r with sustain := some 100 },
          roof := { s.roof with classA := upd s.roof.classA a.node fun h => if h = none then some .sustain else h } })) ∧
    (∀ c : Chan, (s.channels[c].lowerRep = none → exec (.lowerRepetition c) s = goes s) ∧
      (s.channels[c].sustain = none → exec (.channelSustainTimerExpiry c) s = goes s)) ∧
    (∀ b : Node, nodeOf? s .breaker = some b →
      (s.co.sustain ≠ none → exec .breakerSustainTimerExpiry s = goes { s with
        co := { s.co with sustain := some 100 },
        roof := { s.roof with classA := upd s.roof.classA b fun h => if h = none then some .sustain else h } }) ∧
      (s.co.openRep ≠ none → exec .openRepetition s = goes { s with
        co := { s.co with openRep := some 100 }, roof := { s.roof with classA := s.roof.classA.set b (some .opn) } })) ∧
    (s.co.sustain = none → exec .breakerSustainTimerExpiry s = goes s) ∧
    (s.co.openRep = none → exec .openRepetition s = goes s) ∧
    (s.co.tripQuiet ≠ none → exec .tripQuietTimerExpiry s = goes { s with co := { s.co with trips := 0, tripQuiet := none } }) ∧
    (s.co.tripQuiet = none → exec .tripQuietTimerExpiry s = goes s) ∧
    (s.announceRetry ≠ none →
      ((∀ n : Node, s.nodes[n].role = .noRole ∨ s.nodes[n].presence ≠ .absent) →
        exec .announceRetryTimerExpiry s = goes { s with announceRetry := some 1000 }) ∧
      (∀ n : Node, (∀ m : Node, (s.nodes[m].role ≠ .noRole ∧ s.nodes[m].presence = .absent) ↔ m = n) → granted s = false →
        (∀ e ∈ s.roof.classB, e.node ≠ n) → s.roof.classB.length < 16 → exec .announceRetryTimerExpiry s = goes { s with
          announceRetry := some 1000, serial := s.serial + 1,
          roof := { s.roof with classB := s.roof.classB ++ [⟨n, .announceRequest, s.serial⟩] } })) ∧
    (s.train.silence = none → exec .trainLinkSilenceExpiry s = goes s) ∧
    (s.train.silence ≠ none → s.co.state = .idle → exec .trainLinkSilenceExpiry s = goes { s with
      co := { s.co with ordered := none },
      train := noteNotice (.trainSilence s.settings.silenceTime .idle) { s.train with silence := none, silent := true } })

/-- Raise window, cooldown, and the windows whose end is a lockout. RAISE_WINDOW_EXPIRY in RAISING records RAISE-TIMEOUT, enters
LOWERING with cause FAULT and queues CHANNEL-FAULT; the scrape channel's run then ends with reason CHANNEL and SCRAPE-END, the time
of the run in ms (the model's choice, log 36), and the collector is lost: with the substitute used, or no channel eligible, the
controller enters IDLE and queues NO-COLLECTOR (shown with no other channel raised and no run), else the selected channel is raised
as substitute. COOLDOWN_EXPIRY makes the channel DOWN (not the collector of a LOWERING controller). SWITCH_WINDOW in SWITCHING,
CLOSE_WINDOW in CLOSING, OPEN_WINDOW in OPENING, and LOWER_WINDOW in LOWERING, which locks its channel with LOWER-TIMEOUT, enter
LOCKOUT with SWITCH-FAIL, BREAKER-CLOSE-FAIL, BREAKER-OPEN-FAIL and LOWER-FAIL: timers, plan and breaker sustain off, a queued CLOSE
withdrawn, the open repetition on with OPEN placed, LOCKOUT queued, and the raised collector LOWERING with cause SAFE, LOWER in its
slot; shown with no other channel raised, no run and no zone HEATING. That CHANNEL-FAULT stands before LOCKOUT is the model's choice
(log 53). In LOCKOUT already, LOWER_WINDOW locks its channel and does nothing else. A timer not running changes nothing (log 3). -/
def Obligations.WindowsRunOut : Prop :=
  ∀ s : State, s.owed = [] →
    (∀ (c : Chan) (a : PosAssign) (left : Nat), s.positions[s.roleMap[c]].assigned = some a →
      s.channels[c].state = .raising → s.channels[c].phase = some (.raiseWindow, left) →
      let r := s.channels[c]
      let gone : State := { s with
        channels := s.channels.set c { loweredRecord s .fault r with lastFault := .raiseTimeout },
        roof := loweredQueues a.node s.roof,
        train := noteNotice (.channelFault c .raiseTimeout .lowering (some .fault) r.counter r.limit) s.train }
      (s.co.collector ≠ some c → s.scrape.chan ≠ some c → exec (.raiseWindowExpiry c) s = .next (follows s gone)) ∧
      (s.co.collector ≠ some c → s.scrape.chan = some c → s.scrape.run ≠ .noRun →
        exec (.raiseWindowExpiry c) s = .next (follows s { gone with
          scrape := runOver s, train := noteNotice (runOverNotice s c .channel) gone.train })) ∧
      (∀ k, Collects s c k →
        (NoSubstitute s c k → exec (.raiseWindowExpiry c) s = .next (follows s (lostToIdle s gone))) ∧
        (∀ d b window l, Substitute s c k d b window →
          insertB ⟨b.node, .raise d, s.serial⟩ (loweredQueues a.node s.roof).classB = some l →
          exec (.raiseWindowExpiry c) s = .next (follows s (lostToSubstitute gone d b window l))))) ∧
    (∀ (c : Chan) (left : Nat), (s.co.collector = some c → s.co.state ≠ .lowering) → s.channels[c].state = .cooldown →
      s.channels[c].phase = some (.cooldown, left) →
      exec (.cooldownExpiry c) s = .next (follows s { s with
        channels := upd s.channels c fun r => { r with
          state := .down, duty := .noDuty, counter := 0, phase := none, sustain := none, lowerRep := none } })) ∧
    (∀ c : Chan, s.channels[c].phase = none → exec (.raiseWindowExpiry c) s = .next (follows s s) ∧
      exec (.cooldownExpiry c) s = .next (follows s s) ∧ exec (.lowerWindowExpiry c) s = .next (follows s s)) ∧
    (s.co.phase = none → exec .switchWindowExpiry s = .next (follows s s) ∧ exec .closeWindowExpiry s = .next (follows s s) ∧
      exec .openWindowExpiry s = .next (follows s s)) ∧
    (∀ (x : Chan) left, s.co.state = .lockout → s.channels[x].state = .lowering → s.channels[x].phase = some (.lowerWindow, left) →
      let r := s.channels[x]
      exec (.lowerWindowExpiry x) s = .next (follows s { s with
        channels := s.channels.set x { r with state := .locked, phase := none, lowerRep := none, lastFault := .lowerTimeout },
        train := noteNotice (.channelFault x .lowerTimeout .locked none r.counter r.limit) s.train })) ∧
    (∀ b : Node, nodeOf? s .breaker = some b → s.scrape.run = .noRun → (∀ z : Zone, s.zones[z].state ≠ .heating) →
      let stopped (why : LockoutCause) (t : Train) : State := { s with
        co := { s.co with
          state := .lockout, lockoutCause := why, phase := none, tripQuiet := none, plan := .noPlan, sustain := none,
          openRep := some 100, close := if s.co.close = .queued then .notPlaced else s.co.close,
          neutralAnnounced := if s.co.state = .neutral then false else s.co.neutralAnnounced },
        stagger := if gateOpen s = true then none else s.stagger,
        roof := { s.roof with
          classA := s.roof.classA.set b (some .opn),
          classB := if s.co.close = .queued then s.roof.classB.filter fun e => e.cmd ≠ .close else s.roof.classB },
        train := noteNotice (.lockout why s.co.state s.co.active s.co.collector) t }
      let ends (cmd : Instr) (t : State) (channels : Vector Channel 4) : Prop :=
        ((∀ d, raised s d = false) → exec cmd s = .next (follows s { t with channels := channels })) ∧
        (∀ (c : Chan) (a : PosAssign), s.co.collector = some c → s.positions[s.roleMap[c]].assigned = some a →
          raised s c = true → (∀ d, d ≠ c → raised s d = false) →
          exec cmd s = .next (follows s { t with
            channels := channels.set c (loweredRecord s .safe s.channels[c]), roof := loweredQueues a.node t.roof }))
      (∀ left, s.co.state = .switching → s.co.phase = some (.switchWindow, left) →
        ends .switchWindowExpiry (stopped .switchFail s.train) s.channels) ∧
      (∀ left, s.co.state = .closing → s.co.phase = some (.closeWindow, left) →
        ends .closeWindowExpiry (stopped .breakerCloseFail s.train) s.channels) ∧
      (∀ left, s.co.state = .opening → s.co.phase = some (.openWindow, left) →
        ends .openWindowExpiry (stopped .breakerOpenFail s.train) s.channels) ∧
      (∀ (x : Chan) left, s.co.state ≠ .lockout → s.channels[x].state = .lowering →
        s.channels[x].phase = some (.lowerWindow, left) →
        let r := s.channels[x]
        ends (.lowerWindowExpiry x)
          (stopped .lowerFail (noteNotice (.channelFault x .lowerTimeout .locked none r.counter r.limit) s.train))
          (s.channels.set x { r with state := .locked, phase := none, lowerRep := none, lastFault := .lowerTimeout })))

/-- Recognition and neutral deadlines lower the collector; the settle interval admits CLOSE. RECOGNITION_DEADLINE in RECOGNIZING and
NEUTRAL_DEADLINE in NEUTRAL, the raised collector alone on the wire: the controller is LOWERING with plan IDLE (COASTING after the
neutral deadline with another system ordered), the collector LOWERING with cause CHANGEOVER or GRADED, LOWER in its slot; the first
queues RECOGNITION-TIMEOUT. SETTLE_INTERVAL in SWITCHING with line and switch showing the active system: CLOSING, CLOSE in class B,
close progress QUEUED, open repetition off, close window running. A timer not running changes nothing (log 3). -/
def Obligations.DeadlinesAndSettleInterval : Prop :=
  ∀ s : State, s.owed = [] →
    (s.co.phase = none → exec .recognitionDeadlineExpiry s = .next (follows s s) ∧
      exec .neutralDeadlineExpiry s = .next (follows s s) ∧ exec .settleIntervalExpiry s = .next (follows s s)) ∧
    (∀ (c : Chan) (a : PosAssign) (left : Nat), s.co.collector = some c → s.positions[s.roleMap[c]].assigned = some a →
      (s.channels[c].state = .raising ∨ s.channels[c].state = .up) → (∀ d : Chan, s.channels[d].duty ≠ .scrape) →
      s.scrape.run = .noRun →
      let lowered (plan : Plan) (announced : Bool) (t : Train) : State := { s with
        co := { s.co with state := .lowering, plan := plan, phase := none, neutralAnnounced := announced },
        channels := upd s.channels c fun r => { r with
          state := .lowering, duty := .noDuty, cause := some (if s.co.graded then .graded else .changeover),
          phase := some (.lowerWindow, s.settings.lowerWindow), sustain := none, lowerRep := some 100 },
        roof := { s.roof with
          classA := s.roof.classA.set a.node (some .lower),
          classB := s.roof.classB.filter fun e => ! (decide (e.node = a.node) && e.cmd.isRaise) },
        train := t }
      (s.co.state = .recognizing → s.co.phase = some (.recognitionDeadline, left) →
        exec .recognitionDeadlineExpiry s = .next (follows s (lowered .idle s.co.neutralAnnounced
          (noteNotice (.recognitionTimeout s.co.active s.recog.result) s.train)))) ∧
      (s.co.state = .neutral → s.co.phase = some (.neutralDeadline, left) →
        exec .neutralDeadlineExpiry s = .next (follows s (lowered
          (if s.co.ordered ≠ none ∧ s.co.ordered ≠ s.co.active then .coasting else .idle) false s.train)))) ∧
    (∀ (k : SysId) (e : SysEntry) (b : Node) (l : List BEntry) (left : Nat), s.co.state = .switching →
      s.co.phase = some (.settleInterval, left) → s.co.active = some k → s.recog.result = .system k → sysEntry? s k = some e →
      s.co.lastSwitch = some e.switchPos → nodeOf? s .breaker = some b → s.nodes[b].presence ≠ .mismatch →
      insertB ⟨b, .close, s.serial⟩ s.roof.classB = some l →
      exec .settleIntervalExpiry s = .next (follows s { s with
        co := { s.co with
          state := .closing, close := .queued, closeSerial := some s.serial, openRep := none,
          phase := some (.closeWindow, s.settings.closeWindow) },
        roof := { s.roof with classB := l }, serial := s.serial + 1 }))

/-- Pass timers, starts from the queue, and pass completion. PASS_TIMER_EXPIRY restarts the timer in full; from no owed pass the
zone has one, due now, and WAITS (shown with no start possible: gate closed or stagger running), from 1 to 7 one more, and at 8 the
zone is ICE-RISK. An expiry that sets ICE-RISK or finds it set queues the notice, whose age drops the part of a second (the model's
choice, log 36). STAGGER_TIMER_EXPIRY with one WAITING and no PAUSED zone, gate open, node PRESENT and power within the allowance:
the zone is HEATING from now, HEAT-ON is queued and the stagger timer restarts; with the gate closed the timer stops.
PASS_COMPLETION while the stagger timer runs: HEAT-OFF is queued and the zone WAITS for its next pass or is IDLE, accumulator 0. A
timer that does not run, or a zone not HEATING, changes nothing (log 3). -/
def Obligations.HeaterPassesFallDueStartAndEnd : Prop :=
  ∀ (s : State) (z : Zone), s.owed = [] →
    let r := s.zones[z]
    (r.passTimer = none → exec (.passTimerExpiry z) s = .next (follows s s)) ∧
    (r.passTimer ≠ none →
      let again : ZoneRec := { r with passTimer := some (r.interval * 1000) }
      (r.owedPasses = 0 → gateOpen s = false ∨ s.stagger ≠ none → exec (.passTimerExpiry z) s = .next (follows s { s with
        zones := s.zones.set z { again with owedPasses := 1, due := some s.now, state := .waiting },
        train := if r.iceRisk then noteNotice (.iceRisk z 1 0 .waiting) s.train else s.train })) ∧
      (1 ≤ r.owedPasses → r.owedPasses ≤ 7 → r.iceRisk = false → exec (.passTimerExpiry z) s = .next (follows s { s with
        zones := s.zones.set z { again with owedPasses := r.owedPasses + 1 } })) ∧
      (∀ t, 1 ≤ r.owedPasses → r.owedPasses ≤ 7 → r.iceRisk = true → r.due = some t → t ≤ s.now →
        exec (.passTimerExpiry z) s = .next (follows s { s with
          zones := s.zones.set z { again with owedPasses := r.owedPasses + 1 },
          train := noteNotice (.iceRisk z (r.owedPasses + 1) ((s.now - t) / 1000) r.state) s.train })) ∧
      (∀ t, r.owedPasses = 8 → r.due = some t → t ≤ s.now → exec (.passTimerExpiry z) s = .next (follows s { s with
        zones := s.zones.set z { again with iceRisk := true },
        train := noteNotice (.iceRisk z 8 ((s.now - t) / 1000) r.state) s.train }))) ∧
    (s.stagger = none → exec .staggerTimerExpiry s = .next (follows s s)) ∧
    (s.stagger ≠ none → gateOpen s = false → exec .staggerTimerExpiry s = .next (follows s { s with stagger := none })) ∧
    (∀ (n : Node) (l : List BEntry), s.stagger ≠ none → gateOpen s = true → (∀ y : Zone, s.zones[y].state = .waiting ↔ y = z) →
      (∀ y : Zone, s.zones[y].state ≠ .paused) → r.node = some n → s.nodes[n].presence = .present →
      heatingLoad s + r.rated ≤ allowance s → insertB ⟨n, .heatOn z, s.serial⟩ s.roof.classB = some l →
      exec .staggerTimerExpiry s = .next (follows s { s with
        zones := s.zones.set z { r with
          state := .heating, lastStart := some s.now, bypassed := 0, heatOnSerial := some s.serial },
        stagger := some s.settings.stagger, serial := s.serial + 1, roof := { s.roof with classB := l } })) ∧
    (r.state ≠ .heating → exec (.passCompletion z) s = .next (follows s s)) ∧
    (∀ (n : Node) (l : List BEntry), r.state = .heating → s.stagger ≠ none → r.node = some n → s.nodes[n].presence ≠ .mismatch →
      insertB ⟨n, .heatOff z, s.serial⟩ s.roof.classB = some l →
      exec (.passCompletion z) s = .next (follows s { s with
        serial := s.serial + 1, roof := { s.roof with classB := l },
        zones := s.zones.set z (if 2 ≤ r.owedPasses then
            { r with
              owedPasses := r.owedPasses - 1, accum := 0, due := r.due.map (· + r.interval * 1000), state := .waiting,
              forced := false }
          else
            { r with owedPasses := 0, accum := 0, due := none, state := .idle, iceRisk := false, forced := false }) }))

/-- What the roof transmitter picks. With an IDLE transmitter outside a grant the pick takes LOWER or OPEN at the lowest address,
else SUSTAIN at the lowest address with sequence 0, else the first class C entry if pickable and the bypass count has reached the
limit, else the first pickable class B entry (the bypass count rises to at most 15 if the first class C entry was pickable), else
the first pickable class C entry; the bypass count clears when the first class C entry leaves. Other frames carry the node's
sequence counter. A CLOSE makes close progress TRANSMITTED and turns breaker sustain on with SUSTAIN placed. With nothing pickable
nothing changes. -/
def Obligations.RoofPickTakesTheFirstThatExists : Prop :=
  ∀ s : State, s.roof.tx = none → granted s = false →
    let ready (n : Node) : Prop := s.nodes[n].slot = none
    let goes (r : Arbiter) (x : RoofItem) (q : Byte) : State := { s with roof := { r with tx := some { item := x, seq := q } } }
    let noA : Prop := ∀ n : Node, s.roof.classA[n] = none
    let headReady : Prop := ∃ e l, s.roof.classC = e :: l ∧ ready e.node
    let owed : Prop := headReady ∧ s.settings.txBypass ≤ s.roof.bypass
    (∀ (n : Node) f, s.roof.classA[n] = some f → f ≠ .sustain →
      (∀ m : Node, m < n → s.roof.classA[m] = none ∨ s.roof.classA[m] = some .sustain) →
      roofPick s = goes { s.roof with classA := s.roof.classA.set n none } (.classA n f) s.nodes[n].seq) ∧
    (∀ n : Node, s.roof.classA[n] = some .sustain → (∀ m : Node, s.roof.classA[m] = none ∨ s.roof.classA[m] = some .sustain) →
      (∀ m : Node, m < n → s.roof.classA[m] = none) →
      roofPick s = goes { s.roof with classA := s.roof.classA.set n none } (.classA n .sustain) 0) ∧
    (noA → ¬ owed → ∀ a e b, s.roof.classB = a ++ e :: b → ready e.node → (∀ y ∈ a, ¬ ready y.node) →
      ∀ bypass, (headReady → bypass = min 15 (s.roof.bypass + 1)) → (¬ headReady → bypass = s.roof.bypass) →
      let sent := goes { s.roof with classB := a ++ b, bypass := bypass } (.classB e) s.nodes[e.node].seq
      (e.cmd ≠ .close → roofPick s = sent) ∧
      (∀ k : Node, e.cmd = .close → nodeOf? s .breaker = some k → roofPick s = { sent with
        co := { s.co with close := .transmitted, sustain := some 100 },
        roof := { sent.roof with classA := s.roof.classA.set k (some .sustain) } })) ∧
    (noA → owed ∨ (∀ y ∈ s.roof.classB, ¬ ready y.node) → ∀ a e b, s.roof.classC = a ++ e :: b → ready e.node →
      (∀ y ∈ a, ¬ ready y.node) →
      roofPick s = goes { s.roof with classC := a ++ b, bypass := if a = [] then 0 else s.roof.bypass } (.classC e)
        s.nodes[e.node].seq) ∧
    (noA → (∀ y ∈ s.roof.classB, ¬ ready y.node) → (∀ y ∈ s.roof.classC, ¬ ready y.node) → roofPick s = s)

/-- What the train transmitter picks. With an IDLE transmitter the pick takes the oldest response, else the oldest notice with the
notice sequence as it stands, which then advances (the model's reading, log 49; setting the last-sent value of LINE-CHANGE, or of
CHANNEL-FAULT for its channel; shown without the overflow mark), else the oldest mirrored copy; with none of them nothing changes.
-/
def Obligations.TrainPickTakesResponsesFirst : Prop :=
  ∀ s : State, s.train.tx = none →
    (∀ r l, s.train.responses = r :: l →
      trainPick s = { s with train := { s.train with responses := l, tx := some (.response r) } }) ∧
    (s.train.responses = [] →
      (∀ n l, s.train.notices = n :: l → s.train.overflow = false →
        trainPick s = { s with train := { s.train with
          notices := l, noticeSeq := s.train.noticeSeq + 1, tx := some (.notice s.train.noticeSeq n),
          lastLine := match n.data with | .lineChange new .. => some new | _ => s.train.lastLine,
          lastFault := match n.data with
            | .channelFault c f .. => s.train.lastFault.set c (some f)
            | _ => s.train.lastFault } }) ∧
      (s.train.notices = [] →
        (∀ m l, s.fwd.mirror = m :: l → trainPick s = { s with
          fwd := { s.fwd with mirror := l }, train := { s.train with tx := some (.copy m) } }) ∧
        (s.fwd.mirror = [] → trainPick s = s)))

/-- How a notice enters the Notice Queue, and NOTICES-LOST. A notice the filter holds back (changes only, value last sent) changes
nothing. Else a waiting notice of its key takes the new data in its place and its repeat count rises to at most 255; with no such
notice and fewer than 32 it is added with repeat count 1; with 32 it is dropped, the overflow mark set and both loss counts raised
to at most 65,535. A notice that leaves with the mark set clears the mark and the dropped count, and NOTICES-LOST with that count is
added at the end, or the one waiting takes the sum and repeats. -/
def Obligations.NoticeQueueCoalescesAndCountsLosses : Prop :=
  (∀ (t : Train) (d : NoticeData),
    let held : Prop := t.filter[d.kind.index] = true ∧ ((∃ new old dv a f c, d = .lineChange new old dv a f c ∧ t.lastLine = some new) ∨
      (∃ ch f e k n l, d = .channelFault ch f e k n l ∧ t.lastFault[ch] = some f))
    (held → noteNotice d t = t) ∧
    (¬ held →
      (∀ a n b, t.notices = a ++ n :: b → n.data.key = d.key → (∀ y ∈ a ++ b, y.data.key ≠ d.key) →
        noteNotice d t = { t with notices := a ++ { data := d, rep := min 255 (n.rep + 1) } :: b }) ∧
      ((∀ y ∈ t.notices, y.data.key ≠ d.key) → t.notices.length < 32 →
        noteNotice d t = { t with notices := t.notices ++ [{ data := d, rep := 1 }] }) ∧
      ((∀ y ∈ t.notices, y.data.key ≠ d.key) → 32 ≤ t.notices.length →
        noteNotice d t = { t with
          overflow := true, dropped := min 65535 (t.dropped + 1), lost := min 65535 (t.lost + 1) }))) ∧
  (∀ (n : Notice) (rest : List Notice) (t : Train), t.overflow = true →
    ((∀ y ∈ rest, y.data.kind ≠ .noticesLost) →
      (sendNotice n rest t).notices = rest ++ [{ data := .noticesLost t.dropped, rep := 1 }]) ∧
    (∀ a k r b, rest = a ++ { data := .noticesLost k, rep := r } :: b → (∀ y ∈ a ++ b, y.data.kind ≠ .noticesLost) →
      (sendNotice n rest t).notices = a ++ { data := .noticesLost (k + t.dropped), rep := min 255 (r + 1) } :: b) ∧
    (sendNotice n rest t).overflow = false ∧ (sendNotice n rest t).dropped = 0 ∧ (sendNotice n rest t).lost = t.lost)
end

