-- ==== Sys2Proof/Laws/State.lean ====
section
/-! SUPPORT. One lemma per field per update of State, and reading an updated entry of a vector. -/

namespace Sys2Proof.Machine

@[simp] theorem State.modRecog_recog (s : State) (f : Recog → Recog) : (s.modRecog f).recog = f s.recog := rfl
@[simp] theorem State.modRecog_systems (s : State) (f : Recog → Recog) : (s.modRecog f).systems = s.systems := rfl
@[simp] theorem State.modRecog_positions (s : State) (f : Recog → Recog) : (s.modRecog f).positions = s.positions := rfl
@[simp] theorem State.modRecog_roleMap (s : State) (f : Recog → Recog) : (s.modRecog f).roleMap = s.roleMap := rfl
@[simp] theorem State.modRecog_channels (s : State) (f : Recog → Recog) : (s.modRecog f).channels = s.channels := rfl
@[simp] theorem State.modRecog_co (s : State) (f : Recog → Recog) : (s.modRecog f).co = s.co := rfl
@[simp] theorem State.modRecog_zones (s : State) (f : Recog → Recog) : (s.modRecog f).zones = s.zones := rfl
@[simp] theorem State.modRecog_iceSeason (s : State) (f : Recog → Recog) : (s.modRecog f).iceSeason = s.iceSeason := rfl
@[simp] theorem State.modRecog_stagger (s : State) (f : Recog → Recog) : (s.modRecog f).stagger = s.stagger := rfl
@[simp] theorem State.modRecog_scrape (s : State) (f : Recog → Recog) : (s.modRecog f).scrape = s.scrape := rfl
@[simp] theorem State.modRecog_nodes (s : State) (f : Recog → Recog) : (s.modRecog f).nodes = s.nodes := rfl
@[simp] theorem State.modRecog_roofCheckFail (s : State) (f : Recog → Recog) : (s.modRecog f).roofCheckFail = s.roofCheckFail := rfl
@[simp] theorem State.modRecog_announceRetry (s : State) (f : Recog → Recog) : (s.modRecog f).announceRetry = s.announceRetry := rfl
@[simp] theorem State.modRecog_takeover (s : State) (f : Recog → Recog) : (s.modRecog f).takeover = s.takeover := rfl
@[simp] theorem State.modRecog_roof (s : State) (f : Recog → Recog) : (s.modRecog f).roof = s.roof := rfl
@[simp] theorem State.modRecog_fwd (s : State) (f : Recog → Recog) : (s.modRecog f).fwd = s.fwd := rfl
@[simp] theorem State.modRecog_train (s : State) (f : Recog → Recog) : (s.modRecog f).train = s.train := rfl
@[simp] theorem State.modRecog_settings (s : State) (f : Recog → Recog) : (s.modRecog f).settings = s.settings := rfl
@[simp] theorem State.modRecog_now (s : State) (f : Recog → Recog) : (s.modRecog f).now = s.now := rfl
@[simp] theorem State.modRecog_serial (s : State) (f : Recog → Recog) : (s.modRecog f).serial = s.serial := rfl
@[simp] theorem State.modRecog_owed (s : State) (f : Recog → Recog) : (s.modRecog f).owed = s.owed := rfl
@[simp] theorem State.modRecog_pending (s : State) (f : Recog → Recog) : (s.modRecog f).pending = s.pending := rfl

@[simp] theorem State.modPos_recog (s : State) (p : Pos) (f : PosRec → PosRec) : (s.modPos p f).recog = s.recog := rfl
@[simp] theorem State.modPos_systems (s : State) (p : Pos) (f : PosRec → PosRec) : (s.modPos p f).systems = s.systems := rfl
@[simp] theorem State.modPos_positions (s : State) (p : Pos) (f : PosRec → PosRec) : (s.modPos p f).positions = upd s.positions p f := rfl
@[simp] theorem State.modPos_roleMap (s : State) (p : Pos) (f : PosRec → PosRec) : (s.modPos p f).roleMap = s.roleMap := rfl
@[simp] theorem State.modPos_channels (s : State) (p : Pos) (f : PosRec → PosRec) : (s.modPos p f).channels = s.channels := rfl
@[simp] theorem State.modPos_co (s : State) (p : Pos) (f : PosRec → PosRec) : (s.modPos p f).co = s.co := rfl
@[simp] theorem State.modPos_zones (s : State) (p : Pos) (f : PosRec → PosRec) : (s.modPos p f).zones = s.zones := rfl
@[simp] theorem State.modPos_iceSeason (s : State) (p : Pos) (f : PosRec → PosRec) : (s.modPos p f).iceSeason = s.iceSeason := rfl
@[simp] theorem State.modPos_stagger (s : State) (p : Pos) (f : PosRec → PosRec) : (s.modPos p f).stagger = s.stagger := rfl
@[simp] theorem State.modPos_scrape (s : State) (p : Pos) (f : PosRec → PosRec) : (s.modPos p f).scrape = s.scrape := rfl
@[simp] theorem State.modPos_nodes (s : State) (p : Pos) (f : PosRec → PosRec) : (s.modPos p f).nodes = s.nodes := rfl
@[simp] theorem State.modPos_roofCheckFail (s : State) (p : Pos) (f : PosRec → PosRec) : (s.modPos p f).roofCheckFail = s.roofCheckFail := rfl
@[simp] theorem State.modPos_announceRetry (s : State) (p : Pos) (f : PosRec → PosRec) : (s.modPos p f).announceRetry = s.announceRetry := rfl
@[simp] theorem State.modPos_takeover (s : State) (p : Pos) (f : PosRec → PosRec) : (s.modPos p f).takeover = s.takeover := rfl
@[simp] theorem State.modPos_roof (s : State) (p : Pos) (f : PosRec → PosRec) : (s.modPos p f).roof = s.roof := rfl
@[simp] theorem State.modPos_fwd (s : State) (p : Pos) (f : PosRec → PosRec) : (s.modPos p f).fwd = s.fwd := rfl
@[simp] theorem State.modPos_train (s : State) (p : Pos) (f : PosRec → PosRec) : (s.modPos p f).train = s.train := rfl
@[simp] theorem State.modPos_settings (s : State) (p : Pos) (f : PosRec → PosRec) : (s.modPos p f).settings = s.settings := rfl
@[simp] theorem State.modPos_now (s : State) (p : Pos) (f : PosRec → PosRec) : (s.modPos p f).now = s.now := rfl
@[simp] theorem State.modPos_serial (s : State) (p : Pos) (f : PosRec → PosRec) : (s.modPos p f).serial = s.serial := rfl
@[simp] theorem State.modPos_owed (s : State) (p : Pos) (f : PosRec → PosRec) : (s.modPos p f).owed = s.owed := rfl
@[simp] theorem State.modPos_pending (s : State) (p : Pos) (f : PosRec → PosRec) : (s.modPos p f).pending = s.pending := rfl

@[simp] theorem State.modChan_recog (s : State) (c : Chan) (f : Channel → Channel) : (s.modChan c f).recog = s.recog := rfl
@[simp] theorem State.modChan_systems (s : State) (c : Chan) (f : Channel → Channel) : (s.modChan c f).systems = s.systems := rfl
@[simp] theorem State.modChan_positions (s : State) (c : Chan) (f : Channel → Channel) : (s.modChan c f).positions = s.positions := rfl
@[simp] theorem State.modChan_roleMap (s : State) (c : Chan) (f : Channel → Channel) : (s.modChan c f).roleMap = s.roleMap := rfl
@[simp] theorem State.modChan_channels (s : State) (c : Chan) (f : Channel → Channel) : (s.modChan c f).channels = upd s.channels c f := rfl
@[simp] theorem State.modChan_co (s : State) (c : Chan) (f : Channel → Channel) : (s.modChan c f).co = s.co := rfl
@[simp] theorem State.modChan_zones (s : State) (c : Chan) (f : Channel → Channel) : (s.modChan c f).zones = s.zones := rfl
@[simp] theorem State.modChan_iceSeason (s : State) (c : Chan) (f : Channel → Channel) : (s.modChan c f).iceSeason = s.iceSeason := rfl
@[simp] theorem State.modChan_stagger (s : State) (c : Chan) (f : Channel → Channel) : (s.modChan c f).stagger = s.stagger := rfl
@[simp] theorem State.modChan_scrape (s : State) (c : Chan) (f : Channel → Channel) : (s.modChan c f).scrape = s.scrape := rfl
@[simp] theorem State.modChan_nodes (s : State) (c : Chan) (f : Channel → Channel) : (s.modChan c f).nodes = s.nodes := rfl
@[simp] theorem State.modChan_roofCheckFail (s : State) (c : Chan) (f : Channel → Channel) : (s.modChan c f).roofCheckFail = s.roofCheckFail := rfl
@[simp] theorem State.modChan_announceRetry (s : State) (c : Chan) (f : Channel → Channel) : (s.modChan c f).announceRetry = s.announceRetry := rfl
@[simp] theorem State.modChan_takeover (s : State) (c : Chan) (f : Channel → Channel) : (s.modChan c f).takeover = s.takeover := rfl
@[simp] theorem State.modChan_roof (s : State) (c : Chan) (f : Channel → Channel) : (s.modChan c f).roof = s.roof := rfl
@[simp] theorem State.modChan_fwd (s : State) (c : Chan) (f : Channel → Channel) : (s.modChan c f).fwd = s.fwd := rfl
@[simp] theorem State.modChan_train (s : State) (c : Chan) (f : Channel → Channel) : (s.modChan c f).train = s.train := rfl
@[simp] theorem State.modChan_settings (s : State) (c : Chan) (f : Channel → Channel) : (s.modChan c f).settings = s.settings := rfl
@[simp] theorem State.modChan_now (s : State) (c : Chan) (f : Channel → Channel) : (s.modChan c f).now = s.now := rfl
@[simp] theorem State.modChan_serial (s : State) (c : Chan) (f : Channel → Channel) : (s.modChan c f).serial = s.serial := rfl
@[simp] theorem State.modChan_owed (s : State) (c : Chan) (f : Channel → Channel) : (s.modChan c f).owed = s.owed := rfl
@[simp] theorem State.modChan_pending (s : State) (c : Chan) (f : Channel → Channel) : (s.modChan c f).pending = s.pending := rfl

@[simp] theorem State.modCo_recog (s : State) (f : Changeover → Changeover) : (s.modCo f).recog = s.recog := rfl
@[simp] theorem State.modCo_systems (s : State) (f : Changeover → Changeover) : (s.modCo f).systems = s.systems := rfl
@[simp] theorem State.modCo_positions (s : State) (f : Changeover → Changeover) : (s.modCo f).positions = s.positions := rfl
@[simp] theorem State.modCo_roleMap (s : State) (f : Changeover → Changeover) : (s.modCo f).roleMap = s.roleMap := rfl
@[simp] theorem State.modCo_channels (s : State) (f : Changeover → Changeover) : (s.modCo f).channels = s.channels := rfl
@[simp] theorem State.modCo_co (s : State) (f : Changeover → Changeover) : (s.modCo f).co = f s.co := rfl
@[simp] theorem State.modCo_zones (s : State) (f : Changeover → Changeover) : (s.modCo f).zones = s.zones := rfl
@[simp] theorem State.modCo_iceSeason (s : State) (f : Changeover → Changeover) : (s.modCo f).iceSeason = s.iceSeason := rfl
@[simp] theorem State.modCo_stagger (s : State) (f : Changeover → Changeover) : (s.modCo f).stagger = s.stagger := rfl
@[simp] theorem State.modCo_scrape (s : State) (f : Changeover → Changeover) : (s.modCo f).scrape = s.scrape := rfl
@[simp] theorem State.modCo_nodes (s : State) (f : Changeover → Changeover) : (s.modCo f).nodes = s.nodes := rfl
@[simp] theorem State.modCo_roofCheckFail (s : State) (f : Changeover → Changeover) : (s.modCo f).roofCheckFail = s.roofCheckFail := rfl
@[simp] theorem State.modCo_announceRetry (s : State) (f : Changeover → Changeover) : (s.modCo f).announceRetry = s.announceRetry := rfl
@[simp] theorem State.modCo_takeover (s : State) (f : Changeover → Changeover) : (s.modCo f).takeover = s.takeover := rfl
@[simp] theorem State.modCo_roof (s : State) (f : Changeover → Changeover) : (s.modCo f).roof = s.roof := rfl
@[simp] theorem State.modCo_fwd (s : State) (f : Changeover → Changeover) : (s.modCo f).fwd = s.fwd := rfl
@[simp] theorem State.modCo_train (s : State) (f : Changeover → Changeover) : (s.modCo f).train = s.train := rfl
@[simp] theorem State.modCo_settings (s : State) (f : Changeover → Changeover) : (s.modCo f).settings = s.settings := rfl
@[simp] theorem State.modCo_now (s : State) (f : Changeover → Changeover) : (s.modCo f).now = s.now := rfl
@[simp] theorem State.modCo_serial (s : State) (f : Changeover → Changeover) : (s.modCo f).serial = s.serial := rfl
@[simp] theorem State.modCo_owed (s : State) (f : Changeover → Changeover) : (s.modCo f).owed = s.owed := rfl
@[simp] theorem State.modCo_pending (s : State) (f : Changeover → Changeover) : (s.modCo f).pending = s.pending := rfl

@[simp] theorem State.modZone_recog (s : State) (z : Zone) (f : ZoneRec → ZoneRec) : (s.modZone z f).recog = s.recog := rfl
@[simp] theorem State.modZone_systems (s : State) (z : Zone) (f : ZoneRec → ZoneRec) : (s.modZone z f).systems = s.systems := rfl
@[simp] theorem State.modZone_positions (s : State) (z : Zone) (f : ZoneRec → ZoneRec) : (s.modZone z f).positions = s.positions := rfl
@[simp] theorem State.modZone_roleMap (s : State) (z : Zone) (f : ZoneRec → ZoneRec) : (s.modZone z f).roleMap = s.roleMap := rfl
@[simp] theorem State.modZone_channels (s : State) (z : Zone) (f : ZoneRec → ZoneRec) : (s.modZone z f).channels = s.channels := rfl
@[simp] theorem State.modZone_co (s : State) (z : Zone) (f : ZoneRec → ZoneRec) : (s.modZone z f).co = s.co := rfl
@[simp] theorem State.modZone_zones (s : State) (z : Zone) (f : ZoneRec → ZoneRec) : (s.modZone z f).zones = upd s.zones z f := rfl
@[simp] theorem State.modZone_iceSeason (s : State) (z : Zone) (f : ZoneRec → ZoneRec) : (s.modZone z f).iceSeason = s.iceSeason := rfl
@[simp] theorem State.modZone_stagger (s : State) (z : Zone) (f : ZoneRec → ZoneRec) : (s.modZone z f).stagger = s.stagger := rfl
@[simp] theorem State.modZone_scrape (s : State) (z : Zone) (f : ZoneRec → ZoneRec) : (s.modZone z f).scrape = s.scrape := rfl
@[simp] theorem State.modZone_nodes (s : State) (z : Zone) (f : ZoneRec → ZoneRec) : (s.modZone z f).nodes = s.nodes := rfl
@[simp] theorem State.modZone_roofCheckFail (s : State) (z : Zone) (f : ZoneRec → ZoneRec) : (s.modZone z f).roofCheckFail = s.roofCheckFail := rfl
@[simp] theorem State.modZone_announceRetry (s : State) (z : Zone) (f : ZoneRec → ZoneRec) : (s.modZone z f).announceRetry = s.announceRetry := rfl
@[simp] theorem State.modZone_takeover (s : State) (z : Zone) (f : ZoneRec → ZoneRec) : (s.modZone z f).takeover = s.takeover := rfl
@[simp] theorem State.modZone_roof (s : State) (z : Zone) (f : ZoneRec → ZoneRec) : (s.modZone z f).roof = s.roof := rfl
@[simp] theorem State.modZone_fwd (s : State) (z : Zone) (f : ZoneRec → ZoneRec) : (s.modZone z f).fwd = s.fwd := rfl
@[simp] theorem State.modZone_train (s : State) (z : Zone) (f : ZoneRec → ZoneRec) : (s.modZone z f).train = s.train := rfl
@[simp] theorem State.modZone_settings (s : State) (z : Zone) (f : ZoneRec → ZoneRec) : (s.modZone z f).settings = s.settings := rfl
@[simp] theorem State.modZone_now (s : State) (z : Zone) (f : ZoneRec → ZoneRec) : (s.modZone z f).now = s.now := rfl
@[simp] theorem State.modZone_serial (s : State) (z : Zone) (f : ZoneRec → ZoneRec) : (s.modZone z f).serial = s.serial := rfl
@[simp] theorem State.modZone_owed (s : State) (z : Zone) (f : ZoneRec → ZoneRec) : (s.modZone z f).owed = s.owed := rfl
@[simp] theorem State.modZone_pending (s : State) (z : Zone) (f : ZoneRec → ZoneRec) : (s.modZone z f).pending = s.pending := rfl

@[simp] theorem State.modScrape_recog (s : State) (f : Scrape → Scrape) : (s.modScrape f).recog = s.recog := rfl
@[simp] theorem State.modScrape_systems (s : State) (f : Scrape → Scrape) : (s.modScrape f).systems = s.systems := rfl
@[simp] theorem State.modScrape_positions (s : State) (f : Scrape → Scrape) : (s.modScrape f).positions = s.positions := rfl
@[simp] theorem State.modScrape_roleMap (s : State) (f : Scrape → Scrape) : (s.modScrape f).roleMap = s.roleMap := rfl
@[simp] theorem State.modScrape_channels (s : State) (f : Scrape → Scrape) : (s.modScrape f).channels = s.channels := rfl
@[simp] theorem State.modScrape_co (s : State) (f : Scrape → Scrape) : (s.modScrape f).co = s.co := rfl
@[simp] theorem State.modScrape_zones (s : State) (f : Scrape → Scrape) : (s.modScrape f).zones = s.zones := rfl
@[simp] theorem State.modScrape_iceSeason (s : State) (f : Scrape → Scrape) : (s.modScrape f).iceSeason = s.iceSeason := rfl
@[simp] theorem State.modScrape_stagger (s : State) (f : Scrape → Scrape) : (s.modScrape f).stagger = s.stagger := rfl
@[simp] theorem State.modScrape_scrape (s : State) (f : Scrape → Scrape) : (s.modScrape f).scrape = f s.scrape := rfl
@[simp] theorem State.modScrape_nodes (s : State) (f : Scrape → Scrape) : (s.modScrape f).nodes = s.nodes := rfl
@[simp] theorem State.modScrape_roofCheckFail (s : State) (f : Scrape → Scrape) : (s.modScrape f).roofCheckFail = s.roofCheckFail := rfl
@[simp] theorem State.modScrape_announceRetry (s : State) (f : Scrape → Scrape) : (s.modScrape f).announceRetry = s.announceRetry := rfl
@[simp] theorem State.modScrape_takeover (s : State) (f : Scrape → Scrape) : (s.modScrape f).takeover = s.takeover := rfl
@[simp] theorem State.modScrape_roof (s : State) (f : Scrape → Scrape) : (s.modScrape f).roof = s.roof := rfl
@[simp] theorem State.modScrape_fwd (s : State) (f : Scrape → Scrape) : (s.modScrape f).fwd = s.fwd := rfl
@[simp] theorem State.modScrape_train (s : State) (f : Scrape → Scrape) : (s.modScrape f).train = s.train := rfl
@[simp] theorem State.modScrape_settings (s : State) (f : Scrape → Scrape) : (s.modScrape f).settings = s.settings := rfl
@[simp] theorem State.modScrape_now (s : State) (f : Scrape → Scrape) : (s.modScrape f).now = s.now := rfl
@[simp] theorem State.modScrape_serial (s : State) (f : Scrape → Scrape) : (s.modScrape f).serial = s.serial := rfl
@[simp] theorem State.modScrape_owed (s : State) (f : Scrape → Scrape) : (s.modScrape f).owed = s.owed := rfl
@[simp] theorem State.modScrape_pending (s : State) (f : Scrape → Scrape) : (s.modScrape f).pending = s.pending := rfl

@[simp] theorem State.modNode_recog (s : State) (n : Node) (f : NodeRec → NodeRec) : (s.modNode n f).recog = s.recog := rfl
@[simp] theorem State.modNode_systems (s : State) (n : Node) (f : NodeRec → NodeRec) : (s.modNode n f).systems = s.systems := rfl
@[simp] theorem State.modNode_positions (s : State) (n : Node) (f : NodeRec → NodeRec) : (s.modNode n f).positions = s.positions := rfl
@[simp] theorem State.modNode_roleMap (s : State) (n : Node) (f : NodeRec → NodeRec) : (s.modNode n f).roleMap = s.roleMap := rfl
@[simp] theorem State.modNode_channels (s : State) (n : Node) (f : NodeRec → NodeRec) : (s.modNode n f).channels = s.channels := rfl
@[simp] theorem State.modNode_co (s : State) (n : Node) (f : NodeRec → NodeRec) : (s.modNode n f).co = s.co := rfl
@[simp] theorem State.modNode_zones (s : State) (n : Node) (f : NodeRec → NodeRec) : (s.modNode n f).zones = s.zones := rfl
@[simp] theorem State.modNode_iceSeason (s : State) (n : Node) (f : NodeRec → NodeRec) : (s.modNode n f).iceSeason = s.iceSeason := rfl
@[simp] theorem State.modNode_stagger (s : State) (n : Node) (f : NodeRec → NodeRec) : (s.modNode n f).stagger = s.stagger := rfl
@[simp] theorem State.modNode_scrape (s : State) (n : Node) (f : NodeRec → NodeRec) : (s.modNode n f).scrape = s.scrape := rfl
@[simp] theorem State.modNode_nodes (s : State) (n : Node) (f : NodeRec → NodeRec) : (s.modNode n f).nodes = upd s.nodes n f := rfl
@[simp] theorem State.modNode_roofCheckFail (s : State) (n : Node) (f : NodeRec → NodeRec) : (s.modNode n f).roofCheckFail = s.roofCheckFail := rfl
@[simp] theorem State.modNode_announceRetry (s : State) (n : Node) (f : NodeRec → NodeRec) : (s.modNode n f).announceRetry = s.announceRetry := rfl
@[simp] theorem State.modNode_takeover (s : State) (n : Node) (f : NodeRec → NodeRec) : (s.modNode n f).takeover = s.takeover := rfl
@[simp] theorem State.modNode_roof (s : State) (n : Node) (f : NodeRec → NodeRec) : (s.modNode n f).roof = s.roof := rfl
@[simp] theorem State.modNode_fwd (s : State) (n : Node) (f : NodeRec → NodeRec) : (s.modNode n f).fwd = s.fwd := rfl
@[simp] theorem State.modNode_train (s : State) (n : Node) (f : NodeRec → NodeRec) : (s.modNode n f).train = s.train := rfl
@[simp] theorem State.modNode_settings (s : State) (n : Node) (f : NodeRec → NodeRec) : (s.modNode n f).settings = s.settings := rfl
@[simp] theorem State.modNode_now (s : State) (n : Node) (f : NodeRec → NodeRec) : (s.modNode n f).now = s.now := rfl
@[simp] theorem State.modNode_serial (s : State) (n : Node) (f : NodeRec → NodeRec) : (s.modNode n f).serial = s.serial := rfl
@[simp] theorem State.modNode_owed (s : State) (n : Node) (f : NodeRec → NodeRec) : (s.modNode n f).owed = s.owed := rfl
@[simp] theorem State.modNode_pending (s : State) (n : Node) (f : NodeRec → NodeRec) : (s.modNode n f).pending = s.pending := rfl

@[simp] theorem State.modTakeover_recog (s : State) (f : Takeover → Takeover) : (s.modTakeover f).recog = s.recog := rfl
@[simp] theorem State.modTakeover_systems (s : State) (f : Takeover → Takeover) : (s.modTakeover f).systems = s.systems := rfl
@[simp] theorem State.modTakeover_positions (s : State) (f : Takeover → Takeover) : (s.modTakeover f).positions = s.positions := rfl
@[simp] theorem State.modTakeover_roleMap (s : State) (f : Takeover → Takeover) : (s.modTakeover f).roleMap = s.roleMap := rfl
@[simp] theorem State.modTakeover_channels (s : State) (f : Takeover → Takeover) : (s.modTakeover f).channels = s.channels := rfl
@[simp] theorem State.modTakeover_co (s : State) (f : Takeover → Takeover) : (s.modTakeover f).co = s.co := rfl
@[simp] theorem State.modTakeover_zones (s : State) (f : Takeover → Takeover) : (s.modTakeover f).zones = s.zones := rfl
@[simp] theorem State.modTakeover_iceSeason (s : State) (f : Takeover → Takeover) : (s.modTakeover f).iceSeason = s.iceSeason := rfl
@[simp] theorem State.modTakeover_stagger (s : State) (f : Takeover → Takeover) : (s.modTakeover f).stagger = s.stagger := rfl
@[simp] theorem State.modTakeover_scrape (s : State) (f : Takeover → Takeover) : (s.modTakeover f).scrape = s.scrape := rfl
@[simp] theorem State.modTakeover_nodes (s : State) (f : Takeover → Takeover) : (s.modTakeover f).nodes = s.nodes := rfl
@[simp] theorem State.modTakeover_roofCheckFail (s : State) (f : Takeover → Takeover) : (s.modTakeover f).roofCheckFail = s.roofCheckFail := rfl
@[simp] theorem State.modTakeover_announceRetry (s : State) (f : Takeover → Takeover) : (s.modTakeover f).announceRetry = s.announceRetry := rfl
@[simp] theorem State.modTakeover_takeover (s : State) (f : Takeover → Takeover) : (s.modTakeover f).takeover = f s.takeover := rfl
@[simp] theorem State.modTakeover_roof (s : State) (f : Takeover → Takeover) : (s.modTakeover f).roof = s.roof := rfl
@[simp] theorem State.modTakeover_fwd (s : State) (f : Takeover → Takeover) : (s.modTakeover f).fwd = s.fwd := rfl
@[simp] theorem State.modTakeover_train (s : State) (f : Takeover → Takeover) : (s.modTakeover f).train = s.train := rfl
@[simp] theorem State.modTakeover_settings (s : State) (f : Takeover → Takeover) : (s.modTakeover f).settings = s.settings := rfl
@[simp] theorem State.modTakeover_now (s : State) (f : Takeover → Takeover) : (s.modTakeover f).now = s.now := rfl
@[simp] theorem State.modTakeover_serial (s : State) (f : Takeover → Takeover) : (s.modTakeover f).serial = s.serial := rfl
@[simp] theorem State.modTakeover_owed (s : State) (f : Takeover → Takeover) : (s.modTakeover f).owed = s.owed := rfl
@[simp] theorem State.modTakeover_pending (s : State) (f : Takeover → Takeover) : (s.modTakeover f).pending = s.pending := rfl

@[simp] theorem State.modRoof_recog (s : State) (f : Arbiter → Arbiter) : (s.modRoof f).recog = s.recog := rfl
@[simp] theorem State.modRoof_systems (s : State) (f : Arbiter → Arbiter) : (s.modRoof f).systems = s.systems := rfl
@[simp] theorem State.modRoof_positions (s : State) (f : Arbiter → Arbiter) : (s.modRoof f).positions = s.positions := rfl
@[simp] theorem State.modRoof_roleMap (s : State) (f : Arbiter → Arbiter) : (s.modRoof f).roleMap = s.roleMap := rfl
@[simp] theorem State.modRoof_channels (s : State) (f : Arbiter → Arbiter) : (s.modRoof f).channels = s.channels := rfl
@[simp] theorem State.modRoof_co (s : State) (f : Arbiter → Arbiter) : (s.modRoof f).co = s.co := rfl
@[simp] theorem State.modRoof_zones (s : State) (f : Arbiter → Arbiter) : (s.modRoof f).zones = s.zones := rfl
@[simp] theorem State.modRoof_iceSeason (s : State) (f : Arbiter → Arbiter) : (s.modRoof f).iceSeason = s.iceSeason := rfl
@[simp] theorem State.modRoof_stagger (s : State) (f : Arbiter → Arbiter) : (s.modRoof f).stagger = s.stagger := rfl
@[simp] theorem State.modRoof_scrape (s : State) (f : Arbiter → Arbiter) : (s.modRoof f).scrape = s.scrape := rfl
@[simp] theorem State.modRoof_nodes (s : State) (f : Arbiter → Arbiter) : (s.modRoof f).nodes = s.nodes := rfl
@[simp] theorem State.modRoof_roofCheckFail (s : State) (f : Arbiter → Arbiter) : (s.modRoof f).roofCheckFail = s.roofCheckFail := rfl
@[simp] theorem State.modRoof_announceRetry (s : State) (f : Arbiter → Arbiter) : (s.modRoof f).announceRetry = s.announceRetry := rfl
@[simp] theorem State.modRoof_takeover (s : State) (f : Arbiter → Arbiter) : (s.modRoof f).takeover = s.takeover := rfl
@[simp] theorem State.modRoof_roof (s : State) (f : Arbiter → Arbiter) : (s.modRoof f).roof = f s.roof := rfl
@[simp] theorem State.modRoof_fwd (s : State) (f : Arbiter → Arbiter) : (s.modRoof f).fwd = s.fwd := rfl
@[simp] theorem State.modRoof_train (s : State) (f : Arbiter → Arbiter) : (s.modRoof f).train = s.train := rfl
@[simp] theorem State.modRoof_settings (s : State) (f : Arbiter → Arbiter) : (s.modRoof f).settings = s.settings := rfl
@[simp] theorem State.modRoof_now (s : State) (f : Arbiter → Arbiter) : (s.modRoof f).now = s.now := rfl
@[simp] theorem State.modRoof_serial (s : State) (f : Arbiter → Arbiter) : (s.modRoof f).serial = s.serial := rfl
@[simp] theorem State.modRoof_owed (s : State) (f : Arbiter → Arbiter) : (s.modRoof f).owed = s.owed := rfl
@[simp] theorem State.modRoof_pending (s : State) (f : Arbiter → Arbiter) : (s.modRoof f).pending = s.pending := rfl

@[simp] theorem State.modFwd_recog (s : State) (f : Forward → Forward) : (s.modFwd f).recog = s.recog := rfl
@[simp] theorem State.modFwd_systems (s : State) (f : Forward → Forward) : (s.modFwd f).systems = s.systems := rfl
@[simp] theorem State.modFwd_positions (s : State) (f : Forward → Forward) : (s.modFwd f).positions = s.positions := rfl
@[simp] theorem State.modFwd_roleMap (s : State) (f : Forward → Forward) : (s.modFwd f).roleMap = s.roleMap := rfl
@[simp] theorem State.modFwd_channels (s : State) (f : Forward → Forward) : (s.modFwd f).channels = s.channels := rfl
@[simp] theorem State.modFwd_co (s : State) (f : Forward → Forward) : (s.modFwd f).co = s.co := rfl
@[simp] theorem State.modFwd_zones (s : State) (f : Forward → Forward) : (s.modFwd f).zones = s.zones := rfl
@[simp] theorem State.modFwd_iceSeason (s : State) (f : Forward → Forward) : (s.modFwd f).iceSeason = s.iceSeason := rfl
@[simp] theorem State.modFwd_stagger (s : State) (f : Forward → Forward) : (s.modFwd f).stagger = s.stagger := rfl
@[simp] theorem State.modFwd_scrape (s : State) (f : Forward → Forward) : (s.modFwd f).scrape = s.scrape := rfl
@[simp] theorem State.modFwd_nodes (s : State) (f : Forward → Forward) : (s.modFwd f).nodes = s.nodes := rfl
@[simp] theorem State.modFwd_roofCheckFail (s : State) (f : Forward → Forward) : (s.modFwd f).roofCheckFail = s.roofCheckFail := rfl
@[simp] theorem State.modFwd_announceRetry (s : State) (f : Forward → Forward) : (s.modFwd f).announceRetry = s.announceRetry := rfl
@[simp] theorem State.modFwd_takeover (s : State) (f : Forward → Forward) : (s.modFwd f).takeover = s.takeover := rfl
@[simp] theorem State.modFwd_roof (s : State) (f : Forward → Forward) : (s.modFwd f).roof = s.roof := rfl
@[simp] theorem State.modFwd_fwd (s : State) (f : Forward → Forward) : (s.modFwd f).fwd = f s.fwd := rfl
@[simp] theorem State.modFwd_train (s : State) (f : Forward → Forward) : (s.modFwd f).train = s.train := rfl
@[simp] theorem State.modFwd_settings (s : State) (f : Forward → Forward) : (s.modFwd f).settings = s.settings := rfl
@[simp] theorem State.modFwd_now (s : State) (f : Forward → Forward) : (s.modFwd f).now = s.now := rfl
@[simp] theorem State.modFwd_serial (s : State) (f : Forward → Forward) : (s.modFwd f).serial = s.serial := rfl
@[simp] theorem State.modFwd_owed (s : State) (f : Forward → Forward) : (s.modFwd f).owed = s.owed := rfl
@[simp] theorem State.modFwd_pending (s : State) (f : Forward → Forward) : (s.modFwd f).pending = s.pending := rfl

@[simp] theorem State.modTrain_recog (s : State) (f : Train → Train) : (s.modTrain f).recog = s.recog := rfl
@[simp] theorem State.modTrain_systems (s : State) (f : Train → Train) : (s.modTrain f).systems = s.systems := rfl
@[simp] theorem State.modTrain_positions (s : State) (f : Train → Train) : (s.modTrain f).positions = s.positions := rfl
@[simp] theorem State.modTrain_roleMap (s : State) (f : Train → Train) : (s.modTrain f).roleMap = s.roleMap := rfl
@[simp] theorem State.modTrain_channels (s : State) (f : Train → Train) : (s.modTrain f).channels = s.channels := rfl
@[simp] theorem State.modTrain_co (s : State) (f : Train → Train) : (s.modTrain f).co = s.co := rfl
@[simp] theorem State.modTrain_zones (s : State) (f : Train → Train) : (s.modTrain f).zones = s.zones := rfl
@[simp] theorem State.modTrain_iceSeason (s : State) (f : Train → Train) : (s.modTrain f).iceSeason = s.iceSeason := rfl
@[simp] theorem State.modTrain_stagger (s : State) (f : Train → Train) : (s.modTrain f).stagger = s.stagger := rfl
@[simp] theorem State.modTrain_scrape (s : State) (f : Train → Train) : (s.modTrain f).scrape = s.scrape := rfl
@[simp] theorem State.modTrain_nodes (s : State) (f : Train → Train) : (s.modTrain f).nodes = s.nodes := rfl
@[simp] theorem State.modTrain_roofCheckFail (s : State) (f : Train → Train) : (s.modTrain f).roofCheckFail = s.roofCheckFail := rfl
@[simp] theorem State.modTrain_announceRetry (s : State) (f : Train → Train) : (s.modTrain f).announceRetry = s.announceRetry := rfl
@[simp] theorem State.modTrain_takeover (s : State) (f : Train → Train) : (s.modTrain f).takeover = s.takeover := rfl
@[simp] theorem State.modTrain_roof (s : State) (f : Train → Train) : (s.modTrain f).roof = s.roof := rfl
@[simp] theorem State.modTrain_fwd (s : State) (f : Train → Train) : (s.modTrain f).fwd = s.fwd := rfl
@[simp] theorem State.modTrain_train (s : State) (f : Train → Train) : (s.modTrain f).train = f s.train := rfl
@[simp] theorem State.modTrain_settings (s : State) (f : Train → Train) : (s.modTrain f).settings = s.settings := rfl
@[simp] theorem State.modTrain_now (s : State) (f : Train → Train) : (s.modTrain f).now = s.now := rfl
@[simp] theorem State.modTrain_serial (s : State) (f : Train → Train) : (s.modTrain f).serial = s.serial := rfl
@[simp] theorem State.modTrain_owed (s : State) (f : Train → Train) : (s.modTrain f).owed = s.owed := rfl
@[simp] theorem State.modTrain_pending (s : State) (f : Train → Train) : (s.modTrain f).pending = s.pending := rfl

@[simp] theorem State.modSettings_recog (s : State) (f : Settings → Settings) : (s.modSettings f).recog = s.recog := rfl
@[simp] theorem State.modSettings_systems (s : State) (f : Settings → Settings) : (s.modSettings f).systems = s.systems := rfl
@[simp] theorem State.modSettings_positions (s : State) (f : Settings → Settings) : (s.modSettings f).positions = s.positions := rfl
@[simp] theorem State.modSettings_roleMap (s : State) (f : Settings → Settings) : (s.modSettings f).roleMap = s.roleMap := rfl
@[simp] theorem State.modSettings_channels (s : State) (f : Settings → Settings) : (s.modSettings f).channels = s.channels := rfl
@[simp] theorem State.modSettings_co (s : State) (f : Settings → Settings) : (s.modSettings f).co = s.co := rfl
@[simp] theorem State.modSettings_zones (s : State) (f : Settings → Settings) : (s.modSettings f).zones = s.zones := rfl
@[simp] theorem State.modSettings_iceSeason (s : State) (f : Settings → Settings) : (s.modSettings f).iceSeason = s.iceSeason := rfl
@[simp] theorem State.modSettings_stagger (s : State) (f : Settings → Settings) : (s.modSettings f).stagger = s.stagger := rfl
@[simp] theorem State.modSettings_scrape (s : State) (f : Settings → Settings) : (s.modSettings f).scrape = s.scrape := rfl
@[simp] theorem State.modSettings_nodes (s : State) (f : Settings → Settings) : (s.modSettings f).nodes = s.nodes := rfl
@[simp] theorem State.modSettings_roofCheckFail (s : State) (f : Settings → Settings) : (s.modSettings f).roofCheckFail = s.roofCheckFail := rfl
@[simp] theorem State.modSettings_announceRetry (s : State) (f : Settings → Settings) : (s.modSettings f).announceRetry = s.announceRetry := rfl
@[simp] theorem State.modSettings_takeover (s : State) (f : Settings → Settings) : (s.modSettings f).takeover = s.takeover := rfl
@[simp] theorem State.modSettings_roof (s : State) (f : Settings → Settings) : (s.modSettings f).roof = s.roof := rfl
@[simp] theorem State.modSettings_fwd (s : State) (f : Settings → Settings) : (s.modSettings f).fwd = s.fwd := rfl
@[simp] theorem State.modSettings_train (s : State) (f : Settings → Settings) : (s.modSettings f).train = s.train := rfl
@[simp] theorem State.modSettings_settings (s : State) (f : Settings → Settings) : (s.modSettings f).settings = f s.settings := rfl
@[simp] theorem State.modSettings_now (s : State) (f : Settings → Settings) : (s.modSettings f).now = s.now := rfl
@[simp] theorem State.modSettings_serial (s : State) (f : Settings → Settings) : (s.modSettings f).serial = s.serial := rfl
@[simp] theorem State.modSettings_owed (s : State) (f : Settings → Settings) : (s.modSettings f).owed = s.owed := rfl
@[simp] theorem State.modSettings_pending (s : State) (f : Settings → Settings) : (s.modSettings f).pending = s.pending := rfl

/-- The entry that an update touches. -/
@[simp] theorem upd_self_nat {α : Type} {n : Nat} (v : Vector α n) (i : Fin n) (f : α → α) :
    (upd v i f)[(i : Nat)] = f v[(i : Nat)] := Vector.getElem_set_self ..

/-- The entry that an update touches. -/
theorem upd_self {α : Type} {n : Nat} (v : Vector α n) (i : Fin n) (f : α → α) : (upd v i f)[i] = f v[i] := upd_self_nat v i f

/-- An entry that an update does not touch. -/
theorem upd_other {α : Type} {n : Nat} (v : Vector α n) {i j : Fin n} (f : α → α) (h : i ≠ j) : (upd v i f)[j] = v[j] :=
  Vector.getElem_set_ne i.isLt j.isLt fun e => h (Fin.ext e)

/-- Any entry of an updated vector. -/
theorem upd_get {α : Type} {n : Nat} (v : Vector α n) (i j : Fin n) (f : α → α) :
    (upd v i f)[j] = if i = j then f v[j] else v[j] := by
  by_cases h : i = j
  · subst h; rw [if_pos rfl]; exact upd_self v i f
  · rw [if_neg h]; exact upd_other v f h

/-- An update of one entry that keeps a value of every entry keeps the vector of these values. -/
theorem upd_map_keep {α β : Type} {n : Nat} (v : Vector α n) (i : Fin n) (f : α → α) (g : α → β)
    (h : ∀ a, g (f a) = g a) : (upd v i f).map g = v.map g := by
  apply Vector.ext
  intro j hj
  rw [Vector.getElem_map, Vector.getElem_map]
  have := upd_get v i ⟨j, hj⟩ f
  change (upd v i f)[j] = _ at this
  rw [this]
  split
  · exact h _
  · rfl

end Sys2Proof.Machine
end

