-- ==== Sys2Proof/Laws/Heat.lean ====
section
/-! SUPPORT. What the Heater Scheduler's operations can change, said once: zones, stagger timer, scrape record, class B, notices, and the
outcomes owed. Everything else they leave. -/

namespace Sys2Proof.Machine

/-- t differs from s at most in what the Heater Scheduler's operations change. -/
structure HeatOnly (s t : State) : Prop where
  recog : t.recog = s.recog
  systems : t.systems = s.systems
  positions : t.positions = s.positions
  roleMap : t.roleMap = s.roleMap
  channels : t.channels = s.channels
  co : t.co = s.co
  iceSeason : t.iceSeason = s.iceSeason
  nodes : t.nodes = s.nodes
  roofCheckFail : t.roofCheckFail = s.roofCheckFail
  announceRetry : t.announceRetry = s.announceRetry
  takeover : t.takeover = s.takeover
  roof : t.roof = { s.roof with classB := t.roof.classB }
  fwd : t.fwd = s.fwd
  settings : t.settings = s.settings
  now : t.now = s.now
  pending : t.pending = s.pending

theorem HeatOnly.refl (s : State) : HeatOnly s s := by constructor <;> rfl

theorem HeatOnly.trans {s t u : State} (a : HeatOnly s t) (b : HeatOnly t u) : HeatOnly s u where
  recog := b.recog.trans a.recog
  systems := b.systems.trans a.systems
  positions := b.positions.trans a.positions
  roleMap := b.roleMap.trans a.roleMap
  channels := b.channels.trans a.channels
  co := b.co.trans a.co
  iceSeason := b.iceSeason.trans a.iceSeason
  nodes := b.nodes.trans a.nodes
  roofCheckFail := b.roofCheckFail.trans a.roofCheckFail
  announceRetry := b.announceRetry.trans a.announceRetry
  takeover := b.takeover.trans a.takeover
  roof := by rw [b.roof, a.roof]
  fwd := b.fwd.trans a.fwd
  settings := b.settings.trans a.settings
  now := b.now.trans a.now
  pending := b.pending.trans a.pending

theorem HeatOnly.fold {α : Type} {f : State → α → State} (h : ∀ s x, HeatOnly s (f s x)) (l : List α) (s : State) :
    HeatOnly s (l.foldl f s) := by
  induction l generalizing s with
  | nil => exact .refl s
  | cons x l ih => exact (h s x).trans (ih _)

theorem HeatOnly.modZone (z : Zone) (f : ZoneRec → ZoneRec) (s : State) : HeatOnly s (s.modZone z f) := by constructor <;> rfl

theorem HeatOnly.modScrape (f : Scrape → Scrape) (s : State) : HeatOnly s (s.modScrape f) := by constructor <;> rfl

theorem HeatOnly.notice (d : NoticeData) (s : State) : HeatOnly s (queueNotice d s) := by constructor <;> rfl

theorem HeatOnly.stagger (x : Option Nat) (s : State) : HeatOnly s { s with stagger := x } := by constructor <;> rfl

/-- A class B placement of anything but a RAISE. -/
theorem HeatOnly.placeB (n : Node) {c : BCmd} (h : ∀ ch, c ≠ .raise ch) (s : State) : HeatOnly s (placeB n c s) := by
  simp only [Machine.placeB]
  split
  · constructor <;> rfl
  · split
    · constructor <;> rfl
    · cases c with
      | raise ch => exact absurd rfl (h ch)
      | _ => constructor <;> rfl

theorem HeatOnly.heatOff (z : Zone) (s : State) : HeatOnly s (placeHeatOff z s) := by
  unfold placeHeatOff
  split
  · exact .refl s
  · exact .placeB _ (by simp) s

theorem HeatOnly.heatOffUnlessMismatch (z : Zone) (s : State) : HeatOnly s (placeHeatOffUnlessMismatch z s) := by
  unfold placeHeatOffUnlessMismatch
  split
  · exact .refl s
  · split
    · exact .refl s
    · exact .placeB _ (by simp) s

theorem HeatOnly.heatOn (z : Zone) (s : State) : HeatOnly s (placeHeatOn z s) := by
  unfold placeHeatOn
  split
  · exact .refl s
  · exact .placeB _ (by simp) s

theorem HeatOnly.heat (z : Zone) (s : State) : HeatOnly s (heat z s) :=
  ((HeatOnly.modZone z _ s).trans (.heatOn z _)).trans (.stagger _ _)

theorem HeatOnly.startZone (z : Zone) (s : State) : HeatOnly s (startZone z s) := (HeatOnly.modZone z _ s).trans (.heat z _)

theorem HeatOnly.pauseZone (z : Zone) (s : State) : HeatOnly s (pauseZone z s) :=
  (HeatOnly.modZone z _ s).trans (.heatOffUnlessMismatch z _)

theorem HeatOnly.closeGate (s : State) : HeatOnly s (closeGate s) := by
  refine HeatOnly.trans (.fold (fun s z => ?_) (List.finRange 10) s) (.stagger none _)
  split
  · exact .pauseZone z s
  · exact .refl s

theorem HeatOnly.startFromQueue (but : Option Zone) (s : State) : HeatOnly s (startFromQueue but s) := by
  unfold Machine.startFromQueue
  split
  · exact .refl s
  · split
    · exact .startZone _ s
    · split
      · split
        · exact .refl s
        · exact (HeatOnly.startZone _ s).trans (.modZone _ _ _)
      · exact .refl s

theorem HeatOnly.startDecisionBut (but : Option Zone) (s : State) : HeatOnly s (startDecisionBut but s) := by
  unfold Machine.startDecisionBut
  split
  · split
    · exact .heat _ s
    · exact .startFromQueue but s
  · exact .refl s

theorem HeatOnly.startDecision (s : State) : HeatOnly s (startDecision s) := .startDecisionBut none s

/-- A decision that leaves no zone out asks R90 alone. -/
@[simp] theorem startable_none (s : State) (z : Zone) : startable none s z = canStart s z := by simp [startable]

/-- No decision starts the zone it leaves out (R96). -/
@[simp] theorem startable_self (z : Zone) (s : State) : startable (some z) s z = false := by simp [startable]

theorem HeatOnly.resumeIfAble (s : State) (z : Zone) : HeatOnly s (resumeIfAble s z) := by
  unfold Machine.resumeIfAble
  split
  · exact .heat z s
  · exact .refl s

theorem HeatOnly.openGate (s : State) : HeatOnly s (openGate s) := by
  simp only [Machine.openGate]
  split
  · exact .fold HeatOnly.resumeIfAble _ s
  · exact (HeatOnly.fold HeatOnly.resumeIfAble _ s).trans (.startDecision _)

theorem HeatOnly.gateChange (was : Bool) (s : State) : HeatOnly s (gateChange was s) := by
  unfold Machine.gateChange
  split
  · exact .closeGate s
  · split
    · exact .openGate s
    · exact .refl s

theorem HeatOnly.endRun (why : EndReason) (s : State) : HeatOnly s (endRun why s) := by
  simp only [Machine.endRun]
  split
  · exact .refl s
  · split
    · exact .modScrape _ s
    · exact (HeatOnly.notice _ s).trans (.modScrape _ _)

theorem HeatOnly.scrapeOnChannel (c : Chan) (old new : ChanState) (s : State) : HeatOnly s (scrapeOnChannel c old new s) := by
  unfold Machine.scrapeOnChannel
  split
  · split
    · exact .modScrape _ s
    · split
      · exact .endRun _ s
      · exact .refl s
  · exact .refl s

/-- A change of the changeover state changes the state, the two fields that R66 and R76 tie to it, and what the scheduler changes. -/
theorem setCo_heatOnly (st : CoState) (s : State) : HeatOnly (s.modCo (changeRecord st)) (setCo st s) := by
  simp only [setCo]
  split
  · exact (HeatOnly.gateChange _ _).trans (.endRun _ _)
  · exact .gateChange _ _

theorem setCo_co (st : CoState) (s : State) : (setCo st s).co = changeRecord st s.co := (setCo_heatOnly st s).co

end Sys2Proof.Machine
end

