-- ==== Sys2Proof/Laws/Path.lean ====
section
/-! SUPPORT. The chain of entries to SWITCHING, CLOSING and NEUTRAL ends within five entries (R60, R62, R68, R69). -/

namespace Sys2Proof.Machine

theorem setCo_recog (st : CoState) (s : State) : (setCo st s).recog = s.recog := (setCo_heatOnly st s).recog

theorem setCo_systems (st : CoState) (s : State) : (setCo st s).systems = s.systems := (setCo_heatOnly st s).systems

/-- The line shows the active system: what it reads. -/
theorem resultIsActive_congr {s t : State} (a : t.recog = s.recog) (b : t.co.active = s.co.active) :
    resultIsActive t = resultIsActive s := by simp [resultIsActive, a, b]

/-- The switch stands: what it reads. -/
theorem switchStands_congr {s t : State} (a : t.systems = s.systems) (b : t.co.active = s.co.active)
    (c : t.co.lastSwitch = s.co.lastSwitch) : switchStands t = switchStands s := by
  simp [switchStands, activeSwitch?, activeEntry?, sysEntry?, a, b, c]

theorem setCo_resultIsActive (st : CoState) (s : State) : resultIsActive (setCo st s) = resultIsActive s :=
  resultIsActive_congr (setCo_recog st s) (by rw [setCo_co]; rfl)

theorem setCo_switchStands (st : CoState) (s : State) : switchStands (setCo st s) = switchStands s :=
  switchStands_congr (setCo_systems st s) (by rw [setCo_co]; rfl) (by rw [setCo_co]; rfl)

theorem scrapeOnChannel_recog (c : Chan) (old new : ChanState) (s : State) : (scrapeOnChannel c old new s).recog = s.recog :=
  (HeatOnly.scrapeOnChannel c old new s).recog

theorem lowerRequest_recog (c : Chan) (cause : LowerCause) (s : State) : (lowerRequest c cause s).recog = s.recog := by
  simp only [lowerRequest]
  split
  · simp only [enterLowering, scrapeOnChannel_recog, lowerCore, placeAChan, withdrawRaiseChan]
    split <;> (split <;> rfl)
  · rfl

theorem lowerMisfits_recog (k : SysId) (s : State) : (lowerMisfits k s).recog = s.recog := by
  have h : ∀ (l : List Chan) (t : State), (l.foldl (fun t c =>
      if t.co.collector ≠ some c ∧ ¬ fitsSystem t k c then lowerRequest c .changeover t else t) t).recog = t.recog := by
    intro l
    induction l with
    | nil => intro t; rfl
    | cons c l ih =>
      intro t
      rw [List.foldl_cons, ih]
      split
      · exact lowerRequest_recog ..
      · rfl
  exact h (List.finRange 4) s

/-- CLOSING with the line on the active system ends within two entries. -/
theorem enterPath_closing_active (n : Nat) {s : State} (h : resultIsActive s = true) :
    enterPath (n + 2) .closing s = enterPath 2 .closing s := by
  simp only [enterPath, setCo_resultIsActive, h, if_true, setCo_switchStands]
  split
  · rfl
  · rename_i h1
    have e : switchStands ((setCo .switching (setCo .closing s)).modCo fun r => { r with switchSerial := none }) = switchStands s :=
      (switchStands_congr rfl rfl rfl).trans ((setCo_switchStands ..).trans (setCo_switchStands ..))
    simp only [e, h1]
    rfl

/-- SWITCHING with the line on the active system ends within two entries. -/
theorem enterPath_switching_active (n : Nat) {s : State} (h : resultIsActive s = true) :
    enterPath (n + 2) .switching s = enterPath 2 .switching s := by
  simp only [enterPath]
  split
  · rename_i h1
    generalize e : (setCo .switching s).modCo (fun r => { r with switchSerial := none }) = t at h1 ⊢
    have a : resultIsActive t = true := by
      rw [← e]; exact (resultIsActive_congr rfl rfl).trans ((setCo_resultIsActive ..).trans h)
    simp only [setCo_resultIsActive, a, if_true, setCo_switchStands, h1]
  · rfl

/-- The verdict CLOSE means that the line shows the active system (R69). -/
theorem verdict_close {t : State} (h : verdictNow t = .close) : resultIsActive t = true := by
  unfold verdictNow neutralVerdict at h
  unfold resultIsActive
  split at h
  · rename_i k hr
    try simp only [hr]
    split at h
    · rename_i ha; simp [ha]
    · split at h
      · split at h <;> cases h
      · cases h
  · cases h

/-- The verdict of a changeover to k means that the line shows k (R69). -/
theorem verdict_change {t : State} {k : SysId} (h : verdictNow t = .change k) : t.recog.result = .system k := by
  unfold verdictNow neutralVerdict at h
  split at h
  · rename_i j hr
    split at h
    · split at h
      · cases h
      · split at h
        · cases h
        · split at h <;> cases h
    · split at h
      · split at h
        · cases h; exact hr
        · cases h
      · cases h
  · cases h

/-- One entry to NEUTRAL. -/
theorem enterPath_neutral_entry (n : Nat) (s : State) : enterPath (n + 1) .neutral s =
    match verdictNow (neutralEntry s) with
    | .wait => neutralEntry s
    | .close => enterPath n .closing (neutralEntry s)
    | .change k => enterPath n .switching (changeoverTo k (neutralEntry s))
    | .coast => enterCoLowering .coasting (neutralEntry s) := rfl

/-- NEUTRAL ends within three entries. -/
theorem enterPath_neutral (n : Nat) (s : State) : enterPath (n + 3) .neutral s = enterPath 3 .neutral s := by
  rw [enterPath_neutral_entry (n + 2), enterPath_neutral_entry 2]
  cases hv : verdictNow (neutralEntry s) with
  | wait => rfl
  | coast => rfl
  | close => exact enterPath_closing_active n (verdict_close hv)
  | change k =>
    refine enterPath_switching_active n ?_
    have h := verdict_change hv
    simp [resultIsActive, changeoverTo, lowerMisfits_recog, h]

/-- One entry to CLOSING. -/
theorem enterPath_closing_entry (n : Nat) (s : State) : enterPath (n + 1) .closing s =
    if resultIsActive (setCo .closing s) then
      (if switchStands (setCo .closing s) then admitClose (setCo .closing s) else enterPath n .switching (setCo .closing s))
    else enterPath n .neutral (setCo .closing s) := rfl

/-- One entry to SWITCHING. -/
theorem enterPath_switching_entry (n : Nat) (s : State) : enterPath (n + 1) .switching s =
    if switchStands ((setCo .switching s).modCo fun r => { r with switchSerial := none }) then
      enterPath n .closing ((setCo .switching s).modCo fun r => { r with switchSerial := none })
    else awaitSwitch ((setCo .switching s).modCo fun r => { r with switchSerial := none }) := rfl

/-- The chain of entries ends within five: more fuel changes nothing. -/
theorem enterPath_stable (n : Nat) (e : Entry) (s : State) : enterPath (n + 5) e s = enterPath 5 e s := by
  have closing : ∀ (m : Nat) (t : State), enterPath (m + 4) .closing t = enterPath 4 .closing t := by
    intro m t
    by_cases h : resultIsActive t = true
    · rw [enterPath_closing_active (m + 2) h, enterPath_closing_active 2 h]
    · rw [enterPath_closing_entry (m + 3), enterPath_closing_entry 3, setCo_resultIsActive, if_neg h, if_neg h]
      exact enterPath_neutral m _
  cases e with
  | switching =>
    rw [enterPath_switching_entry (n + 4), enterPath_switching_entry 4, closing n]
  | closing => exact (closing (n + 1) s).trans (closing 1 s).symm
  | neutral => exact (enterPath_neutral (n + 2) s).trans (enterPath_neutral 2 s).symm

end Sys2Proof.Machine
end

