-- ==== Sys2Proof/WellFormed.lean ====
section
/-! DEFINITION. What a command's operands must be to be one that the links can carry: payload lengths (11.1) and the sorting of frames into
rows (R1, R155, R181, 11.2, 11.3). Every command has its meaning whether or not it is well formed. -/

namespace Sys2Proof

/-- The payload words of the frame that carries the command; a load or clear has its table word before the entry or key (11.3). -/
def Instr.payloadLength : Instr → Nat
  | .sample _ _ p | .contact _ _ p | .breakerState _ _ p | .switchState _ _ p | .contactorState _ _ p | .announce _ _ p => p.length
  | .ack _ _ _ p | .unknownReport _ _ _ p | .nodeCommand _ _ _ p => p.length
  | .unknownRequest _ _ p => p.length
  | .readStatus _ p | .readEntry _ p => p.length
  | .loadEntrySystem _ e | .loadEntryPosition _ e | .loadEntryZone _ e | .loadEntryNode _ e | .loadEntryWindow _ e
  | .loadEntryInterlock _ e | .loadEntryConfig _ e => e.length + 1
  | .clearEntrySystem _ k | .clearEntryPosition _ k | .clearEntryZone _ k | .clearEntryNode _ k | .clearEntryWindow _ k
  | .clearEntryInterlock _ k | .clearEntryConfig _ k => k.length + 1
  | .powerUp _ p | .powerDown _ p | .changeover _ p | .neutralAhead _ p | .sectionClear _ p | .clearLockout _ p
  | .loweringOrder _ p | .channelReset _ p | .channelLower _ p | .remap _ p | .iceSeason _ p | .scrape _ p | .depotAccess _ p
  | .noticeFilter _ p | .partReset _ p => p.length
  | .powerOnReset | .roofFrameCheckFailure _ | .roofFrameIgnored | .sampleTimeout | .trainFrameCheckFailure _
  | .trainFrameIgnored | .takeoverRequestAsserted | .takeoverRequestDeasserted | .roofTransmissionComplete
  | .trainTransmissionComplete | .raiseWindowExpiry _ | .lowerWindowExpiry _ | .lowerRepetition _ | .cooldownExpiry _
  | .channelSustainTimerExpiry _ | .breakerSustainTimerExpiry | .openRepetition | .recognitionDeadlineExpiry
  | .switchWindowExpiry | .settleIntervalExpiry | .closeWindowExpiry | .openWindowExpiry | .neutralDeadlineExpiry
  | .tripQuietTimerExpiry | .passTimerExpiry _ | .staggerTimerExpiry | .passCompletion _ | .scrapeTimerExpiry | .nodeSilence _
  | .ackDeadlineExpiry _ | .announceRetryTimerExpiry | .trainLinkSilenceExpiry => 0

/-- A payload has 0 to 30 words (11.1). -/
def Instr.lengthOk (i : Instr) : Bool := i.payloadLength ≤ 30

/-- The kinds of report, by code (11.2). -/
inductive ReportKind where
  | contact | breaker | switch | contactor | announce | unknown
  deriving DecidableEq, Repr

/-- The kind of report that a code and payload make (R181). -/
def reportKind (code : Byte) (payload : List Word) : ReportKind :=
  match Machine.report? code payload with
  | some (.contact ..) => .contact
  | some (.breaker _) => .breaker
  | some (.switch _) => .switch
  | some (.contactor _) => .contactor
  | some (.announce ..) => .announce
  | none => .unknown

/-- A report command's payload holds the fields of its row, and an unknown report's holds none (R181). -/
def Instr.reportOk : Instr → Bool
  | .contact _ _ p => reportKind 1 p = .contact
  | .breakerState _ _ p => reportKind 2 p = .breaker
  | .switchState _ _ p => reportKind 3 p = .switch
  | .contactorState _ _ p => reportKind 4 p = .contactor
  | .announce _ _ p => reportKind 5 p = .announce
  | .unknownReport _ _ c p => reportKind c p = .unknown
  | _ => true

/-- The payload's first word names no table (11.3). -/
def namesNoTable : List Word → Bool
  | [] => true
  | t :: _ => (Machine.table? t).isNone

/-- An UNKNOWN_REQUEST has a code that names no request, or is a load or clear of no table (R155, R182; log 29). -/
def Instr.requestOk : Instr → Bool
  | .unknownRequest _ c p => ! Machine.isRequestCode c || (decide (c = 2 ∨ c = 4) && namesNoTable p)
  | _ => true

/-- The command is one that the links can carry. -/
def Instr.wellFormed (i : Instr) : Bool := i.lengthOk && i.reportOk && i.requestOk

end Sys2Proof
end

