-- ==== Sys2Proof/Laws/PerInstr.lean ====
section
/-! SUPPORT. Laws of the commands as syntax, one lemma per command. -/

namespace Sys2Proof.Laws.PayloadFits

/-- A well-formed command is carried by a frame of at most 30 payload words (11.1). -/
def Statement (i : Instr) : Prop := i.wellFormed = true → i.payloadLength ≤ 30

/-- What a well-formed command is, as far as its length goes. -/
theorem of_wellFormed (i : Instr) : Statement i := by
  intro h
  simp only [Instr.wellFormed, Bool.and_eq_true] at h
  exact of_decide_eq_true h.1.1

theorem powerOnReset : Statement (.powerOnReset) := of_wellFormed _
theorem roofFrameCheckFailure (kind : FrameFailure) : Statement (.roofFrameCheckFailure kind) := of_wellFormed _
theorem roofFrameIgnored : Statement (.roofFrameIgnored) := of_wellFormed _
theorem sample (src : Node) (seq : Byte) (payload : List Word) : Statement (.sample src seq payload) := of_wellFormed _
theorem sampleTimeout : Statement (.sampleTimeout) := of_wellFormed _
theorem contact (src : Node) (seq : Byte) (payload : List Word) : Statement (.contact src seq payload) := of_wellFormed _
theorem breakerState (src : Node) (seq : Byte) (payload : List Word) : Statement (.breakerState src seq payload) := of_wellFormed _
theorem switchState (src : Node) (seq : Byte) (payload : List Word) : Statement (.switchState src seq payload) := of_wellFormed _
theorem contactorState (src : Node) (seq : Byte) (payload : List Word) : Statement (.contactorState src seq payload) := of_wellFormed _
theorem announce (src : Node) (seq : Byte) (payload : List Word) : Statement (.announce src seq payload) := of_wellFormed _
theorem ack (src : Node) (seq : Byte) (code : Byte) (payload : List Word) : Statement (.ack src seq code payload) := of_wellFormed _
theorem unknownReport (src : Node) (seq : Byte) (code : Byte) (payload : List Word) : Statement (.unknownReport src seq code payload) := of_wellFormed _
theorem trainFrameCheckFailure (kind : FrameFailure) : Statement (.trainFrameCheckFailure kind) := of_wellFormed _
theorem trainFrameIgnored : Statement (.trainFrameIgnored) := of_wellFormed _
theorem unknownRequest (seq : Byte) (code : Byte) (payload : List Word) : Statement (.unknownRequest seq code payload) := of_wellFormed _
theorem readStatus (seq : Byte) (payload : List Word) : Statement (.readStatus seq payload) := of_wellFormed _
theorem readEntry (seq : Byte) (payload : List Word) : Statement (.readEntry seq payload) := of_wellFormed _
theorem loadEntrySystem (seq : Byte) (entry : List Word) : Statement (.loadEntrySystem seq entry) := of_wellFormed _
theorem clearEntrySystem (seq : Byte) (key : List Word) : Statement (.clearEntrySystem seq key) := of_wellFormed _
theorem loadEntryPosition (seq : Byte) (entry : List Word) : Statement (.loadEntryPosition seq entry) := of_wellFormed _
theorem clearEntryPosition (seq : Byte) (key : List Word) : Statement (.clearEntryPosition seq key) := of_wellFormed _
theorem loadEntryZone (seq : Byte) (entry : List Word) : Statement (.loadEntryZone seq entry) := of_wellFormed _
theorem clearEntryZone (seq : Byte) (key : List Word) : Statement (.clearEntryZone seq key) := of_wellFormed _
theorem loadEntryNode (seq : Byte) (entry : List Word) : Statement (.loadEntryNode seq entry) := of_wellFormed _
theorem clearEntryNode (seq : Byte) (key : List Word) : Statement (.clearEntryNode seq key) := of_wellFormed _
theorem loadEntryWindow (seq : Byte) (entry : List Word) : Statement (.loadEntryWindow seq entry) := of_wellFormed _
theorem clearEntryWindow (seq : Byte) (key : List Word) : Statement (.clearEntryWindow seq key) := of_wellFormed _
theorem loadEntryInterlock (seq : Byte) (entry : List Word) : Statement (.loadEntryInterlock seq entry) := of_wellFormed _
theorem clearEntryInterlock (seq : Byte) (key : List Word) : Statement (.clearEntryInterlock seq key) := of_wellFormed _
theorem loadEntryConfig (seq : Byte) (entry : List Word) : Statement (.loadEntryConfig seq entry) := of_wellFormed _
theorem clearEntryConfig (seq : Byte) (key : List Word) : Statement (.clearEntryConfig seq key) := of_wellFormed _
theorem powerUp (seq : Byte) (payload : List Word) : Statement (.powerUp seq payload) := of_wellFormed _
theorem powerDown (seq : Byte) (payload : List Word) : Statement (.powerDown seq payload) := of_wellFormed _
theorem changeover (seq : Byte) (payload : List Word) : Statement (.changeover seq payload) := of_wellFormed _
theorem neutralAhead (seq : Byte) (payload : List Word) : Statement (.neutralAhead seq payload) := of_wellFormed _
theorem sectionClear (seq : Byte) (payload : List Word) : Statement (.sectionClear seq payload) := of_wellFormed _
theorem clearLockout (seq : Byte) (payload : List Word) : Statement (.clearLockout seq payload) := of_wellFormed _
theorem loweringOrder (seq : Byte) (payload : List Word) : Statement (.loweringOrder seq payload) := of_wellFormed _
theorem channelReset (seq : Byte) (payload : List Word) : Statement (.channelReset seq payload) := of_wellFormed _
theorem channelLower (seq : Byte) (payload : List Word) : Statement (.channelLower seq payload) := of_wellFormed _
theorem remap (seq : Byte) (payload : List Word) : Statement (.remap seq payload) := of_wellFormed _
theorem iceSeason (seq : Byte) (payload : List Word) : Statement (.iceSeason seq payload) := of_wellFormed _
theorem scrape (seq : Byte) (payload : List Word) : Statement (.scrape seq payload) := of_wellFormed _
theorem depotAccess (seq : Byte) (payload : List Word) : Statement (.depotAccess seq payload) := of_wellFormed _
theorem noticeFilter (seq : Byte) (payload : List Word) : Statement (.noticeFilter seq payload) := of_wellFormed _
theorem partReset (seq : Byte) (payload : List Word) : Statement (.partReset seq payload) := of_wellFormed _
theorem nodeCommand (dest : Node) (seq : Byte) (code : Byte) (payload : List Word) : Statement (.nodeCommand dest seq code payload) := of_wellFormed _
theorem takeoverRequestAsserted : Statement (.takeoverRequestAsserted) := of_wellFormed _
theorem takeoverRequestDeasserted : Statement (.takeoverRequestDeasserted) := of_wellFormed _
theorem roofTransmissionComplete : Statement (.roofTransmissionComplete) := of_wellFormed _
theorem trainTransmissionComplete : Statement (.trainTransmissionComplete) := of_wellFormed _
theorem raiseWindowExpiry (ch : Chan) : Statement (.raiseWindowExpiry ch) := of_wellFormed _
theorem lowerWindowExpiry (ch : Chan) : Statement (.lowerWindowExpiry ch) := of_wellFormed _
theorem lowerRepetition (ch : Chan) : Statement (.lowerRepetition ch) := of_wellFormed _
theorem cooldownExpiry (ch : Chan) : Statement (.cooldownExpiry ch) := of_wellFormed _
theorem channelSustainTimerExpiry (ch : Chan) : Statement (.channelSustainTimerExpiry ch) := of_wellFormed _
theorem breakerSustainTimerExpiry : Statement (.breakerSustainTimerExpiry) := of_wellFormed _
theorem openRepetition : Statement (.openRepetition) := of_wellFormed _
theorem recognitionDeadlineExpiry : Statement (.recognitionDeadlineExpiry) := of_wellFormed _
theorem switchWindowExpiry : Statement (.switchWindowExpiry) := of_wellFormed _
theorem settleIntervalExpiry : Statement (.settleIntervalExpiry) := of_wellFormed _
theorem closeWindowExpiry : Statement (.closeWindowExpiry) := of_wellFormed _
theorem openWindowExpiry : Statement (.openWindowExpiry) := of_wellFormed _
theorem neutralDeadlineExpiry : Statement (.neutralDeadlineExpiry) := of_wellFormed _
theorem tripQuietTimerExpiry : Statement (.tripQuietTimerExpiry) := of_wellFormed _
theorem passTimerExpiry (z : Zone) : Statement (.passTimerExpiry z) := of_wellFormed _
theorem staggerTimerExpiry : Statement (.staggerTimerExpiry) := of_wellFormed _
theorem passCompletion (z : Zone) : Statement (.passCompletion z) := of_wellFormed _
theorem scrapeTimerExpiry : Statement (.scrapeTimerExpiry) := of_wellFormed _
theorem nodeSilence (n : Node) : Statement (.nodeSilence n) := of_wellFormed _
theorem ackDeadlineExpiry (n : Node) : Statement (.ackDeadlineExpiry n) := of_wellFormed _
theorem announceRetryTimerExpiry : Statement (.announceRetryTimerExpiry) := of_wellFormed _
theorem trainLinkSilenceExpiry : Statement (.trainLinkSilenceExpiry) := of_wellFormed _

end Sys2Proof.Laws.PayloadFits
end

