-- ==== Sys2Proof/Laws/Reaction.lean ====
section
/-! SUPPORT. What one reaction can do, said once: a command whose action owes no outcome, a request that is decided or discarded, the
takeover evaluation, and the picks. -/

namespace Sys2Proof.Machine

theorem payOwed_nil (n : Nat) (s : State) (h : s.owed = []) : payOwed n s = s := by
  cases n <;> simp [payOwed, h]

theorem drain_owed (s : State) : (drain s).owed = [] := rfl

theorem drain_nil (s : State) (h : s.owed = []) : drain s = s := by
  cases s; simp only at h; subst h; simp [drain, payOwed_nil]

/-- A command whose action owes no outcome: what follows is the takeover evaluation and the picks. -/
theorem react_eq {act : State → State} {s : State} (h : (act s).owed = []) : react act s = .next (follows s (act s)) := by
  simp [react, settle, drain_nil _ h]

theorem react_eq_of {act : State → State} {s v : State} (e : act s = v) (h : v.owed = []) :
    react act s = .next (follows s v) := by
  subst e; exact react_eq h

/-- A request that is decided (R155). -/
theorem manage_decided {s : State} (h : Decides s) (q c : Byte) (d : State → Reply) :
    manage q c d s = respond q c (d (trainFrameTaken s)) := by
  have h1 := h.going; have h2 := h.place
  simp [manage, trainFrameTaken, State.modTrain, responsePlace, responseMax, h1, h2]

/-- A request that is discarded (R155, R163). -/
theorem manage_discarded {s : State} (h : s.train.resetPending = true ∨ 8 ≤ s.train.responses.length) (q c : Byte)
    (d : State → Reply) : manage q c d s = discardRequest (trainFrameTaken s) := by
  have e : (trainFrameTaken s).train.resetPending = true ∨ ¬ responsePlace (trainFrameTaken s) = true := by
    rcases h with h | h
    · exact .inl h
    · exact .inr (by simp only [responsePlace, responseMax, trainFrameTaken, State.modTrain_train]; exact mt of_decide_eq_true (by omega))
  simp only [manage]
  exact if_pos e

theorem takeoverAfter_same {s v : State} (h : grantView s = grantView v) : takeoverAfter s v = v := by simp [takeoverAfter, h]

/-- Step 3 of R106, where it starts no heater. -/
theorem restartAge_eq {s : State} {n : Node} (h : Taken s n) :
    restartAge n s = { s with nodes := upd s.nodes n heardFrom } := by
  obtain ⟨_, h1, h2, h3⟩ := h
  unfold heardFrom
  simp only [restartAge, State.modNode, upd, Fin.getElem_fin, Vector.getElem_set_self, setPresence, presenceHandOn,
    Vector.set_set] at *
  split
  · rename_i h4
    cases hx : s.nodes[n.val].role <;> simp_all [pantographPresence]
    split <;> simp
  · rename_i h4
    simp

@[simp] theorem offerMirror_owed (m : MirrorCopy) (s : State) : (offerMirror m s).owed = s.owed := by
  simp only [offerMirror, takeCopy]; split; rfl; split; split <;> rfl; rfl

/-- A frame that is taken: the node is heard from, the frame is delivered, and then offered to the mirror (R106). -/
theorem takeRoofFrame_taken {s : State} {n : Node} (h : Taken s n) (q : Byte) (f : RoofFrame) :
    takeRoofFrame n q f s = mirrorFrame n q f (deliverFrame n q f { s with nodes := upd s.nodes n heardFrom }) := by
  simp only [takeRoofFrame, h.configured, h.noMismatch, if_false, restartAge_eq h]

/-- A REPORT that is taken and holds the fields of its kind. -/
theorem takeReport_taken {s : State} {n : Node} (h : Taken s n) {q code : Byte} {p : List Word} {r : Report}
    (hr : report? code p = some r) :
    takeReport n q code p s =
      offerMirror ⟨n, .report, q, code, p⟩ (deliverReport n r { s with nodes := upd s.nodes n heardFrom }) := by
  simp only [takeReport, takeRoofFrame_taken h, hr, deliverFrame, mirrorFrame, RoofFrame.copy?]

end Sys2Proof.Machine
end

