-- ==== Sys2Proof/Tests/Slice0.lean ====
section
/-! SUPPORT. Tests. The expected values are the spec's: its worked figures and examples, its sequences (10), and its tables. The second
part shows for each statement of Certificates/ a state and operands that meet its hypotheses. -/

open Sys2Proof Sys2Proof.Machine

namespace Sys2Proof.Tests

set_option Elab.async false

/-! ## The car of chapter 10, at rest: controller IDLE, every channel DOWN, every node PRESENT -/

/-- A configured node that is PRESENT. -/
def known (role : Role) : NodeRec := { role := role, period := 100, presence := .present, ageRuns := true }

/-- The roof nodes of the car: the line sensor 5, breaker 10, switch 11, pantograph units 21 to 24, contactors 31 to 40, and an auxiliary
node 50. -/
def carNodes : Vector NodeRec 63 :=
  let o : NodeRec := {}
  let p := known .pantographUnit
  let c := known .heaterContactor
  #v[o, o, o, o, known .lineSensor, o, o, o, o, known .breaker, known .changeoverSwitch, o, o, o, o, o, o, o, o, o,
     p, p, p, p, o, o, o, o, o, o, c, c, c, c, c, c, c, c, c, c, o, o, o, o, o, o, o, o, o, known .auxiliary,
     o, o, o, o, o, o, o, o, o, o, o, o, o]

/-- A zone of the car: rated power in kW, pass duration in s. -/
def zoneAt (z : Zone) (rated duration : Nat) : ZoneRec :=
  { node := some (⟨30 + z.val, by omega⟩), rated := rated, duration := duration, passTimer := some 5000 }

/-- The System Table of the worked figures. -/
def table : Vector (Option SysEntry) 8 :=
  #v[some ⟨0, 1, -2000, 2000, 20000, 30000, 420, 580, 3, 1, 1, 120⟩, some ⟨1, 1, -2000, 2000, 11000, 19000, 120, 230, 3, 1, 2, 90⟩,
     some ⟨2, 1, 2000, 4000, 0, 600, 0, 50, 3, 6, 3, 60⟩, some ⟨3, 1, 1000, 1998, 0, 600, 0, 50, 3, 4, 4, 40⟩,
     some ⟨4, 2, -3000, 3000, 18000, 32000, 300, 9999, 4, 1, 1, 60⟩, none, none, none]

/-- The car. -/
def car : State := { State.reset with
  systems := table
  positions := #v[{ assigned := some ⟨20, 0, some 0⟩ }, { assigned := some ⟨21, 2, some 1⟩ }, { assigned := some ⟨22, 2, some 2⟩ },
    { assigned := some ⟨23, 0, some 6⟩ }]
  zones := #v[zoneAt 0 20 180, zoneAt 1 20 180, zoneAt 2 30 180, zoneAt 3 40 300, zoneAt 4 15 300, zoneAt 5 25 300, zoneAt 6 30 180,
    zoneAt 7 35 300, zoneAt 8 25 300, zoneAt 9 30 300]
  nodes := carNodes
  recog := { State.reset.recog with result := .system 0 }
  co := { State.reset.co with lastSwitch := some 1, lastBreaker := some .opened } }

/-- A channel that is UP with a duty. -/
def up (d : Duty) : Channel := { state := .up, duty := d, sustain := some 50 }

/-- The changeover record POWERED under system k with collector L1. -/
def poweredCo (k : SysId) (switch : Nat) : Changeover :=
  { state := .powered, active := some k, ordered := some k, collector := some 0, close := .transmitted, sustain := some 50,
    lastBreaker := some .closed, lastSwitch := some switch }

/-- The car POWERED under system 1 with collector L1. -/
def powered : State := { car with channels := car.channels.set 0 (up .collect), co := poweredCo 0 1 }

/-- The state after a command. -/
def after (c : Instr) (s : State) : State :=
  match exec c s with
  | .next t => t
  | _ => s

/-- A zone put to heat, at an instant and with a serial. -/
def heating (t : Nat) (r : ZoneRec) : ZoneRec :=
  { r with state := .heating, owedPasses := 1, due := some 0, lastStart := some t, heatOnSerial := some t }

/-- A zone in the pass queue since an instant. -/
def waiting (t : Nat) (r : ZoneRec) : ZoneRec := { r with state := .waiting, owedPasses := 1, due := some t }

/-- The states of the zones. -/
def zoneStates (s : State) : List ZoneState := s.zones.toList.map ZoneRec.state

/-! ## WellFormed: each check refuses an ill-formed command -/

/-- A payload of 31 words (11.1). -/
theorem test_refuses_31_words : (Instr.nodeCommand 0 0 70 (List.replicate 31 0)).wellFormed = false := by decide +kernel

/-- A load of 30 words after its table word. -/
theorem test_refuses_load_of_31_words : (Instr.loadEntrySystem 0 (List.replicate 30 0)).lengthOk = false := by decide +kernel

/-- A CONTACT whose position field is 3 holds no fields (R181). -/
theorem test_refuses_contact_position_3 : (Instr.contact 20 0 [3]).wellFormed = false := by decide +kernel

/-- An UNKNOWN_REPORT that holds the fields of a BREAKER-STATE. -/
theorem test_refuses_known_report_as_unknown : (Instr.unknownReport 9 0 2 [1]).wellFormed = false := by decide +kernel

/-- An UNKNOWN_REQUEST with the code of POWER-UP. -/
theorem test_refuses_known_request_as_unknown : (Instr.unknownRequest 0 16 [1]).wellFormed = false := by decide +kernel

/-- Commands that the links can carry. -/
theorem test_accepts_good_commands :
    (Instr.contact 20 0 [6]).wellFormed ∧ (Instr.powerUp 0 [1]).wellFormed ∧ (Instr.unknownRequest 0 5 []).wellFormed := by decide +kernel

/-! ## Reports, by the examples of R181 -/

theorem test_reports_without_fields :
    report? 1 [3] = none ∧ report? 2 [3] = none ∧ report? 3 [5] = none ∧ report? 4 [3] = none ∧ report? 5 [1] = none := by decide +kernel

/-- CONTACT 0x02FD: bits 15 to 8 ignored, arc count 15, ADD and contact set, position 1 (11.2). -/
theorem test_contact_fields : report? 1 [0x02FD] = some (.contact .travel true true 15) := by decide +kernel

/-! ## Line measurement, by the worked figures of chapter 01 -/

/-- Case 1, 3 kV DC with ripple. -/
theorem test_case1_figures :
    meanCode 1443840 = 1504 ∧ varianceCode 1443840 2193135360 = 22500 ∧ amplitude 22500 = 300 ∧ frequency 0 = 0 := by decide +kernel

/-- Cases 2 and 3: amplitude and frequency figures. -/
theorem test_case2_case3_figures :
    amplitude 156255842 = 25000 ∧ frequency 24 = 500 ∧ frequency 23 = 479 ∧ meanCode 2880 = 3 ∧
    amplitude 56253904 = 15000 ∧ frequency 8 = 166 ∧ frequency 9 = 187 := by decide +kernel

/-- Limit cases A and B, and truncation toward zero (R8). -/
theorem test_limit_figures :
    meanCode (-31457280) = -32768 ∧ varianceCode (-31457280) (960 * 1073741824) = 0 ∧ meanCode (-480) = 0 ∧
    varianceCode (-480) 1030760694240 = 1073709056 ∧ amplitude 1073709056 = 65534 := by decide +kernel

/-- The results of the worked cases against the table. -/
theorem test_classification :
    classify car 3008 300 0 = .system 2 ∧ classify car 0 25000 500 = .system 0 ∧ classify car 0 25000 479 = .system 0 ∧
    classify car 6 15000 166 = .system 1 ∧ classify car (-65536) 0 20 = .unknown ∧ classify car 999 999 0 = .dead := by decide +kernel

/-- Limit case B: the first sample takes UNSET to LOW, the next one to HIGH with a crossing (R7). -/
theorem test_crossings :
    (addSample (addSample {} (-32768)) 32767).crossings = 1 ∧ (addSample {} (-32768)).detector = .low := by decide +kernel

/-- A SAMPLE frame out of sequence is a gap: 16 samples in the new window, gap count 1, run count 0 (R3). -/
theorem test_sample_gap :
    let s := { car with recog := { car.recog with stream := .live, lastSeq := some 7, sampleCount := 160, run := 2 } }
    let r := (after (.sample 4 9 (List.replicate 16 5)) s).recog
    (r.sampleCount, r.gapCount, r.run, r.lastSeq) = (16, 1, 0, some 9) := by decide +kernel

/-- Sequence 0 follows 255 (R2). -/
theorem test_sample_in_sequence :
    let s := { car with recog := { car.recog with stream := .live, lastSeq := some 255, sampleCount := 160 } }
    let r := (after (.sample 4 0 (List.replicate 16 5)) s).recog
    (r.sampleCount, r.gapCount) = (176, 0) := by decide +kernel

/-! ## Pantograph channels, by the worked examples of chapter 02 -/

/-- The counter of the example of rime ice: reports 2 to 6, 28 and 29. -/
theorem test_contact_counter :
    let r (n : Nat) : Channel := { up .collect with counter := n }
    counterAfter (r 0) true 0 = 0 ∧ counterAfter (r 0) true 2 = 32 ∧ counterAfter (r 32) false 0 = 48 ∧
    counterAfter (r 48) true 6 = 144 ∧ counterAfter (r 208) true 8 = 336 ∧ counterAfter (r 332) true 15 = 572 ∧
    counterAfter (r 572) true 5 = 640 := by decide +kernel

/-- Report 29: CONTACT-LOSS, LOWERING with cause FAULT, and the controller opens the breaker with plan SUBSTITUTE. -/
theorem test_contact_loss :
    let s := { powered with channels := powered.channels.set 0 { up .collect with counter := 572 } }
    let t := after (.contact 20 0 [0x56]) s
    (t.channels[0].state, t.channels[0].lastFault, t.channels[0].cause, t.co.state, t.co.plan) =
      (.lowering, .contactLoss, some .fault, .opening, .substitute) := by decide +kernel

/-- The device that drops during a raise: selection for system 3 with Z1 ICE-RISK takes L2. -/
def dropCar : State := { car with
  positions := #v[{ assigned := some ⟨20, 2, some 0⟩ }, { assigned := some ⟨21, 2, some 1⟩ }, { assigned := some ⟨22, 0, some 2⟩ },
    { assigned := some ⟨23, 1, none⟩ }]
  channels := car.channels.set 3 { state := .cooldown, phase := some (.cooldown, 9000) }
  zones := upd car.zones 0 fun r => { r with iceRisk := true } }

theorem test_collect_selection : collectSelect dropCar 2 = some 1 ∧ scrapeSelect dropCar 2 = some 1 := by decide +kernel

/-- With L2 LOCKED, selection takes L1, whose raise window is doubled to 12,000 ms. -/
theorem test_ice_risk_selection :
    let s := { dropCar with channels := dropCar.channels.set 1 { state := .locked, lastFault := .add } }
    let t := after (.powerUp 0 [3]) s
    (t.co.collector, t.channels[0].phase) = (some 0, some (.raiseWindow, 12000)) := by decide +kernel

/-- The report TRAVEL with ADD in RAISING: LOWERING with cause FAULT and last fault ADD. -/
theorem test_add_in_raising :
    let t := after (.contact 21 0 [9]) (after (.powerUp 0 [3]) dropCar)
    (t.channels[1].state, t.channels[1].lastFault, t.channels[1].cause) = (.lowering, .add, some .fault) := by decide +kernel

/-- The DOWN report at the end of that lowering: LOCKED. -/
theorem test_add_ends_locked :
    let s := { dropCar with channels := dropCar.channels.set 1 { state := .lowering, cause := some .fault, lastFault := .add } }
    (after (.contact 21 0 [0]) s).channels[1].state = .locked := by decide +kernel

/-- ADD from a device in COOLDOWN locks it; a RAISE queued for its node stays, since R127 withdraws none there. -/
theorem test_add_in_cooldown :
    let s := { dropCar with roof := { dropCar.roof with
      tx := some { item := .classA 9 .sustain, seq := 0 }, classB := [⟨23, .raise 3, 1⟩] } }
    let t := after (.contact 23 0 [8]) s
    (t.channels[3].state, t.channels[3].lastFault, t.roof.classB.map BEntry.cmd) = (.locked, .add, [.raise 3]) := by decide +kernel

/-- The reset of the locked channel, its position reported DOWN: DOWN with last fault NONE. -/
theorem test_reset_locked :
    let s := { dropCar with
      channels := dropCar.channels.set 1 { state := .locked, lastFault := .add }
      positions := upd dropCar.positions 1 fun r => { r with lastPos := some .down } }
    let t := after (.channelReset 0 [2]) s
    (t.channels[1].state, t.channels[1].lastFault) = (.down, .noFault) := by decide +kernel

/-- A grade of 3 spares the trailing channels of rank 2 (R46). -/
theorem test_graded_lowering :
    let s := { powered with
      channels := (powered.channels.set 0 { up .collect with rank := 2 }).set 3 { up .scrape with rank := 6 } }
    let t := after (.loweringOrder 0 [3]) s
    (t.channels[0].state, t.channels[3].state, t.channels[3].cause) = (.up, .lowering, some .graded) := by decide +kernel

/-! ## The power path, by the worked example of chapter 03 and sequences 1 and 2 -/

/-- CHANGEOVER(2) in POWERED. -/
theorem test_changeover_opens :
    let t := after (.changeover 0 [2]) powered
    (t.co.state, t.co.ordered, t.co.plan, t.co.sustain, t.co.phase) =
      (.opening, some 1, .neutral, none, some (.openWindow, 300)) := by decide +kernel

/-- The breaker reports OPEN: NEUTRAL, waiting, with an ordered system pending. -/
theorem test_open_report_enters_neutral :
    let t := after (.breakerState 9 0 [0]) (after (.changeover 0 [2]) powered)
    (t.co.state, t.co.close, t.co.phase) = (.neutral, .notPlaced, some (.neutralDeadline, 30000)) := by decide +kernel

/-- System 2 is confirmed in NEUTRAL with system 2 ordered: SWITCHING with SWITCH to position 2. -/
theorem test_result_enters_switching :
    let s := { powered with co := { poweredCo 0 1 with state := .neutral, ordered := some 1, sustain := none, close := .notPlaced } }
    let t := changeResult (.system 1) s
    (t.co.state, t.co.active, t.co.phase, t.roof.classB.map BEntry.cmd) =
      (.switching, some 1, some (.switchWindow, 4000), [.switch 2]) := by decide +kernel

/-- The switch reports 2: the settle interval of 200 ms. -/
theorem test_switch_settles :
    let s := { powered with
      co := { poweredCo 1 1 with state := .switching, phase := some (.switchWindow, 1), sustain := none, close := .notPlaced } }
    (after (.switchState 10 0 [2]) s).co.phase = some (.settleInterval, 200) := by decide +kernel

/-- The CLOSED report after the CLOSE departed: POWERED. -/
theorem test_closed_powers :
    let s := { powered with co := { poweredCo 0 1 with state := .closing, phase := some (.closeWindow, 1) } }
    let t := after (.breakerState 9 0 [1]) s
    (t.co.state, t.co.phase, t.co.tripQuiet) = (.powered, none, none) := by decide +kernel

/-- A first trip recloses at once with the line live: CLOSING with CLOSE picked, trip count 1. -/
theorem test_trip_recloses :
    let t := after (.breakerState 9 0 [0]) powered
    (t.co.state, t.co.trips, t.co.close) = (.closing, 1, .transmitted) := by decide +kernel

/-- A second trip locks out with TRIP-REPEAT. -/
theorem test_second_trip :
    let t := after (.breakerState 9 0 [0]) { powered with co := { poweredCo 0 1 with trips := 1 } }
    (t.co.state, t.co.lockoutCause) = (.lockout, .tripRepeat) := by decide +kernel

/-- POWER-DOWN in POWERED, and the breaker reports CLOSED: OPENING goes on, the open repetition is on, OPEN is sent (R73, R173). -/
theorem test_closed_during_power_down :
    let t := after (.breakerState 9 0 [1]) (after (.powerDown 0 []) powered)
    (t.co.state, t.co.plan, t.co.openRep, t.roof.classA[9]) = (.opening, .idle, some 100, some .opn) := by decide +kernel

/-- System 3 confirmed in NEUTRAL with system 3 ordered and a class 1 collector: LOWERING with plan COASTING (sequence 1). -/
theorem test_misfit_coasts :
    let s := { powered with co := { poweredCo 0 1 with state := .neutral, ordered := some 2 } }
    let t := changeResult (.system 2) s
    (t.co.state, t.co.plan, t.channels[0].state, t.channels[0].cause) =
      (.lowering, .coasting, .lowering, some .changeover) := by decide +kernel

/-- SECTION-CLEAR in COASTING with system 3 ordered raises L2 (sequence 1). -/
theorem test_section_clear_starts :
    let s := { car with co := { car.co with state := .coasting, ordered := some 2 } }
    let t := after (.sectionClear 0 []) s
    (t.co.state, t.co.collector, t.channels[1].phase) = (.raising, some 1, some (.raiseWindow, 6000)) := by decide +kernel

/-! ## Ice clearing, by the worked examples of chapter 04 -/

/-- NEUTRAL-AHEAD closes the gate: Z4 and Z6 PAUSED, HEAT-OFF for nodes 34 and 36 (sequence 1). -/
theorem test_gate_closes :
    let s := { powered with zones := upd (upd powered.zones 3 (heating 1)) 5 (heating 2) }
    let t := after (.neutralAhead 0 []) s
    (t.zones[3].state, t.zones[5].state, t.roof.classB.map BEntry.cmd) =
      (.paused, .paused, [.heatOff 3, .heatOff 5]) := by decide +kernel

/-- The gate opens under 60 kW: Z1 and Z3 resume, Z4 and Z6 stay PAUSED ("heat held across a change of allowance"). -/
theorem test_gate_opens :
    let p (r : ZoneRec) : ZoneRec := { heating 0 r with state := .paused }
    let s := { powered with co := poweredCo 2 3, zones := upd (upd (upd (upd powered.zones 0 p) 2 p) 3 p) 5 p }
    let t := openGate s
    (t.zones[0].state, t.zones[2].state, t.zones[3].state, t.zones[5].state, t.stagger) =
      (.heating, .heating, .paused, .paused, some 2000) := by decide +kernel

/-- The head bypass: Z3 heats 30 kW of 60, head Z4 cannot start, Z5 starts, Z4's bypassed count is 1. -/
theorem test_head_bypass :
    let s := { powered with
      co := poweredCo 2 3
      zones := upd (upd (upd (upd powered.zones 2 (heating 0)) 3 (waiting 1)) 4 (waiting 2)) 1 (waiting 3) }
    let t := startDecision s
    (t.zones[4].state, t.zones[3].state, t.zones[3].bypassed) = (.heating, .waiting, 1) := by decide +kernel

/-- At the bypass limit nothing starts past the head. -/
theorem test_head_bypass_limit :
    let s := { powered with
      co := poweredCo 2 3, settings := { powered.settings with heaterBypass := 2 }
      zones := upd (upd (upd powered.zones 2 (heating 0)) 3 fun r => { waiting 1 r with bypassed := 2 }) 4 (waiting 2) }
    startDecision s = s := by decide +kernel

/-- A contactor FAULT with the stagger timer stopped: the decision of the failure leaves Z1 out and starts Z2 (R96). -/
theorem test_contactor_failure_waits :
    let s := { powered with zones := upd (upd powered.zones 0 (heating 1)) 1 (waiting 9) }
    let t := after (.contactorState 30 0 [2]) { s with roof := { s.roof with tx := some { item := .classA 9 .sustain, seq := 0 } } }
    (t.zones[0].state, t.zones[1].state, t.zones[0].bypassed, t.roof.classB.map BEntry.cmd) =
      (.waiting, .heating, 1, [.heatOff 0, .heatOn 1]) := by decide +kernel

/-- The only WAITING zone is the one that failed: nothing starts, and a later decision starts it (R96). -/
theorem test_contactor_failure_alone :
    let t := after (.contactorState 30 0 [2]) { powered with zones := upd powered.zones 0 (heating 1) }
    (t.zones[0].state, t.stagger, (startDecision t).zones[0].state) = (.waiting, none, .heating) := by decide +kernel

/-- A contactor node that no zone holds becomes PRESENT: a start decision (R91, R113). -/
theorem test_contactor_node_starts :
    let s := { powered with
      nodes := upd powered.nodes 49 fun _ => { known .heaterContactor with presence := .silent }
      zones := upd powered.zones 0 (waiting 0) }
    (after (.announce 49 0 [4, 0]) s).zones[0].state = .heating := by decide +kernel

/-- SCRAPE with the example's zones: L4 raised, Z7 forced, Z6 (the newest) shed. -/
theorem test_scrape_forces_strip :
    let s := { powered with
      iceSeason := true
      zones := upd (upd (upd powered.zones 3 (heating 1)) 2 (heating 2)) 5 (heating 3) }
    let t := after (.scrape 0 []) s
    (t.scrape.chan, t.zones[6].state, t.zones[6].forced, t.zones[5].state, t.zones[2].state, heatingLoad t) =
      (some 3, .heating, true, .paused, .heating, 100) := by decide +kernel

/-! ## Roster and takeover, by the worked examples of chapter 05 -/

/-- The wrong head announces itself: MISMATCH with NODE-MISMATCH, expected class 1, declared class 3. -/
theorem test_wrong_head :
    let s := { car with positions := upd car.positions 2 fun _ => { assigned := some ⟨22, 0, some 2⟩ } }
    let t := after (.announce 22 0 [1, 3]) s
    t.nodes[22].presence = .mismatch ∧
      t.train.tx = some (.notice 0 ⟨.nodeMismatch 22 .pantographUnit (some 1) (some 3) (some 0), 1⟩) := by decide +kernel

/-- The position reloaded with class 3: PRESENT. -/
theorem test_reload_matches :
    let s := { car with
      positions := upd car.positions 2 fun _ => { assigned := some ⟨22, 0, some 2⟩ }
      nodes := upd car.nodes 22 fun r => { r with declRole := some 1, declClass := some 3, presence := .mismatch } }
    (after (.loadEntryPosition 0 [3, 23, 3, 3]) s).nodes[22].presence = .present := by decide +kernel

/-- A class word above 4 does not match, whatever the role (R181). -/
theorem test_class_out_of_range : (after (.announce 49 0 [6, 5]) car).nodes[49].presence = .mismatch := by decide +kernel

/-- The owner of a HEAT-OFF removed at a MISMATCH reacts before the frame is offered to the mirror (R106, R112 step 2). -/
theorem test_mismatch_outcome_first :
    let s := { car with
      fwd := { car.fwd with
        windows := car.fwd.windows.set 0 (some ⟨0, 62, 3, .drop, true⟩), mirror := List.replicate 8 ⟨49, .report, 0, 80, []⟩ }
      train := { car.train with tx := some (.response ⟨0, 17, .ok, []⟩) }
      roof := { car.roof with tx := some { item := .classA 9 .sustain, seq := 0 }, classB := [⟨30, .heatOff 0, 1⟩] } }
    (after (.announce 30 0 [6, 0]) s).train.notices.map (fun n => n.data.kind) = [.nodeMismatch, .zoneFault, .mirrorOverflow] := by
  decide +kernel

/-- The takeover of the example: PENDING during a frame, GRANTED at its completion, POWER-UP refused with HELD. -/
def lowerTo21 : State := { car with
  takeover := { car.takeover with access := true }
  roof := { car.roof with tx := some { item := .classA 20 .lower, seq := 0 } } }

theorem test_takeover_pending_then_granted :
    (after .takeoverRequestAsserted lowerTo21).takeover.state = .pending ∧
      (after .roofTransmissionComplete (after .takeoverRequestAsserted lowerTo21)).takeover.state = .granted := by decide +kernel

theorem test_order_held_in_grant :
    let s := { car with takeover := { car.takeover with access := true, request := true, state := .granted } }
    let t := after (.powerUp 0 [1]) s
    t.takeover.held = true ∧ t.train.tx = some (.response ⟨0, 16, .held, []⟩) ∧ returnRequest t = true := by decide +kernel

/-- At the release the arbiter picks from what is queued before the ANNOUNCE-REQUESTs are placed (R122, R135). -/
theorem test_release_picks_what_is_queued :
    let s := { car with
      nodes := upd car.nodes 39 fun r => { r with presence := .absent }
      takeover := { car.takeover with access := true, request := true, state := .granted }
      roof := { car.roof with classC := [⟨49, 80, [], 1⟩] } }
    let t := after .takeoverRequestDeasserted s
    (t.roof.tx.map RoofTx.item, t.roof.classB.map BEntry.cmd, t.roof.bypass) =
      (some (.classC ⟨49, 80, [], 1⟩), [.announceRequest], 0) := by decide +kernel

/-! ## The arbiter, by the worked example of chapter 06 -/

/-- The busy roof: its queues, slots and limit, with a bypass count and an IDLE transmitter. -/
def busyRoof (slots : List Node) (bypass : Nat) : State := { powered with
  settings := { powered.settings with txBypass := 2 }
  nodes := slots.foldl (fun v n => upd v n fun r => { r with slot := some ⟨7, 0, .part (.heatOff 0) 0, 9⟩ }) powered.nodes
  roof := { powered.roof with
    classB := [⟨32, .heatOn 2, 1⟩, ⟨33, .heatOn 3, 2⟩, ⟨23, .raise 3, 3⟩], classC := [⟨49, 80, [], 1⟩, ⟨32, 81, [], 2⟩]
    bypass := bypass } }

/-- What is in transmission, and the bypass count, after a pick. -/
def picked (s : State) : Option RoofItem × Nat := ((roofPick s).roof.tx.map RoofTx.item, (roofPick s).roof.bypass)

theorem test_busy_roof_picks :
    picked { busyRoof [33] 0 with roof := { (busyRoof [33] 0).roof with classA := powered.roof.classA.set 9 (some .sustain) } } =
      (some (.classA 9 .sustain), 0) ∧
    picked (busyRoof [33] 0) = (some (.classB ⟨32, .heatOn 2, 1⟩), 1) ∧
    picked (busyRoof [32, 33] 1) = (some (.classB ⟨23, .raise 3, 3⟩), 2) ∧
    picked (busyRoof [32, 33] 2) = (some (.classC ⟨49, 80, [], 1⟩), 0) := by decide +kernel

/-! ## Node commands, by the worked example of chapter 07 -/

/-- The tables of the example. -/
def running : State := { powered with
  zones := upd powered.zones 2 (heating 0)
  fwd := { powered.fwd with
    windows := (((((powered.fwd.windows.set 0 (some ⟨0, 62, 3, .drop, false⟩)).set 1 (some ⟨19, 28, 2, .chk, false⟩)).set 2
      (some ⟨20, 20, 1, .chk, true⟩)).set 3 (some ⟨29, 38, 2, .chk, false⟩)).set 4 (some ⟨49, 58, 1, .pass, true⟩)).set 5
      (some ⟨9, 9, 1, .chk, false⟩)
    interlocks := ((powered.fwd.interlocks.set 0 (some ⟨.pantographUnit, 90, 0b11000000001, .allDown, .any⟩)).set 1
      (some ⟨.heaterContactor, 100, 0b11111111111, .any, .noneHeating⟩)).set 2 (some ⟨.breaker, 120, 0b10000000001, .allDown, .any⟩) } }

theorem test_node_commands :
    commandFate running 21 90 = .refuse .interlock [5, 1] ∧ commandFate running 32 100 = .refuse .interlock [5, 2] ∧
    commandFate running 49 70 = .pass ∧ commandFate running 44 70 = .drop ∧ commandFate running 32 12 = .refuse .reservedCode [] ∧
    commandFate running 21 91 = .refuse .noRule [5] := by decide +kernel

/-- The load of 25 to 31 at level 2 into slot 7 is refused with OVERLAP. -/
theorem test_window_overlap :
    let s := { running with co := car.co, channels := car.channels }
    (after (.loadEntryWindow 0 [7, 25, 31, 2, 0, 0]) s).train.tx = some (.response ⟨0, 2, .overlap, []⟩) := by decide +kernel

/-! ## Notices, by the worked example of chapter 08 -/

/-- A Notice Queue of 32 notices, one of them an ARC-WATCH for L1. -/
def fullQueue : Train := { State.reset.train with
  notices := ((List.finRange 31).map fun i => ⟨.nodeSilent (⟨i.val, by omega⟩) .auxiliary 100 301, 1⟩) ++
    [⟨.arcWatch 0 320 640 .collect 1 true, 1⟩] }

/-- ARC-WATCH coalesces, ICE-RISK and another notice are dropped, and the next pick creates NOTICES-LOST with 2. -/
theorem test_notice_burst :
    let t := noteNotice (.iceRisk 4 8 0 .waiting) (noteNotice (.arcWatch 0 400 640 .collect 2 true) fullQueue)
    let t := noteNotice (.iceRisk 5 8 0 .waiting) t
    let u := (trainPick { car with train := t }).train
    (t.notices.length, t.overflow, t.dropped) = (32, true, 2) ∧
      (u.notices.getLast?.map Notice.data, u.overflow, u.dropped, u.lost) = (some (.noticesLost 2), false, 0, 2) := by decide +kernel

/-! ## Faults, by the worked example of chapter 09 -/

/-- The silence timer expires in POWERED: OPENING with plan IDLE, ordered NONE, the link marked silent. -/
theorem test_safe_lowering :
    let t := after .trainLinkSilenceExpiry powered
    (t.co.state, t.co.plan, t.co.ordered, t.train.silent, t.train.silence) = (.opening, .idle, none, true, none) := by decide +kernel

/-- L4's lower window expires with the controller IDLE: LOCKOUT with LOWER-FAIL, the channel LOCKED. -/
theorem test_lower_timeout :
    let s := { car with channels := car.channels.set 3 { state := .lowering, phase := some (.lowerWindow, 0), cause := some .changeover } }
    let t := after (.lowerWindowExpiry 3) s
    (t.co.state, t.co.lockoutCause, t.channels[3].state, t.channels[3].lastFault) =
      (.lockout, .lowerFail, .locked, .lowerTimeout) := by decide +kernel

/-! ## Steps, links and words -/

/-- What a step leaves: the clock, the waiting commands, the sample timeout. -/
def stepped (s : State) : Option (Nat × List Instr × Option Nat) :=
  match step s with
  | .next t => some (t.now, t.pending, t.recog.sampleTimeout)
  | _ => none

/-- The command at the front of the queue runs; with none waiting the clock runs and the sample timeout counts down. -/
theorem test_steps :
    stepped { car with pending := [.roofFrameIgnored, .sampleTimeout] } = some (0, [.sampleTimeout], none) ∧
    stepped { car with recog := { car.recog with sampleTimeout := some 20 } } = some (1, [], some 19) := by decide +kernel

/-- A POWER-UP(1) frame of the train link, its words written out from 11.1, becomes the command; the one with a wrong last word fails
its check. -/
theorem test_train_frame :
    let body : List Word := [0x0006, 0x0510, 0x0001, 0x0001]
    trainReceive (body ++ [checkWord body]) = .powerUp 5 [1] ∧
      trainReceive (body ++ [checkWord body ^^^ 1]) = .trainFrameCheckFailure .check := by decide +kernel

/-- A CONTACT report of node 21, its words written out from 11.1 and 11.2, becomes the command. -/
theorem test_roof_frame :
    let body : List Word := [0x0153, 0x0901, 0x0001, 0x0006]
    roofReceive (body ++ [checkWord body]) = .contact 20 9 [6] := by decide +kernel

/-- The words of the System Table's slot 1 (11.4): Dmin −2000 in two words of two's complement. -/
theorem test_entry_words :
    SysEntry.words 0 ⟨0, 1, -2000, 2000, 20000, 30000, 420, 580, 3, 1, 1, 120⟩ =
      [1, 1, 1, 0xFFFF, 0xF830, 0, 2000, 20000, 30000, 420, 580, 3, 1, 1, 120] := by decide +kernel

/-- A time left in seconds, two words, high word first (R82, R85, R99, R183). -/
theorem test_time_left_in_seconds : leftSecWords (some 70000000) = [1, 4464] ∧ leftSecWords none = [] := by decide +kernel

/-! ## The statements' hypotheses are met

Each theorem applies a statement at concrete states and operands, which meet its hypotheses (each of them decided here), and says what the
statement then gives there; clauses with ranges are taken at boundary values. -/

/-- The command answers a next state with a property. -/
def Gives (c : Instr) (s : State) (p : State → Prop) : Prop := ∃ t, exec c s = .next t ∧ p t

theorem of_exec {c : Instr} {s t : State} {p : State → Prop} (h : exec c s = .next t) (hp : p t) : Gives c s p := ⟨t, h, hp⟩

theorem of_eq {α : Type} {a b : α} {p : α → Prop} (h : a = b) (hp : p b) : p a := h ▸ hp

/-- A property of what an option holds. -/
theorem of_some {α : Type} {p : α → Prop} {o : Option α} {b : α} (h : o = some b) (hb : p b) : ∀ a, o = some a → p a := by
  intro a ha
  rw [h] at ha
  cases ha
  exact hb

theorem taken (s : State) (n : Node) (h : s.owed = [] ∧ s.nodes[n].role ≠ .noRole ∧ s.nodes[n].presence ≠ .mismatch ∧
    (s.nodes[n].role = .heaterContactor → s.nodes[n].presence ≠ .silent)) : Taken s n := ⟨h.1, h.2.1, h.2.2.1, h.2.2.2⟩

theorem decides (s : State) (h : s.owed = [] ∧ s.train.resetPending = false ∧ s.train.responses.length < 8) : Decides s :=
  ⟨h.1, h.2.1, h.2.2⟩

/-- The car with both transmitters busy. -/
def busy (s : State) : State := { s with
  roof := { s.roof with tx := some ⟨.classA 9 .sustain, 0, true⟩ }, train := { s.train with tx := some (.response ⟨0, 17, .ok, []⟩) } }

/-- The car with two commands waiting. -/
def queued : State := { car with pending := [.roofFrameIgnored, .sampleTimeout] }

theorem witness_StepRunsFrontCommand : Obligations.StepRunsFrontCommand →
    step queued = exec .roofFrameIgnored { queued with pending := [.sampleTimeout] } := fun h => h queued _ _ rfl

theorem witness_IdleStepIsTheClock : Obligations.IdleStepIsTheClock →
    let due := { car with recog := { car.recog with sampleTimeout := some 0 } }
    step due = exec .sampleTimeout due ∧ ∃ t, step car = .next t ∧ t.now = 1 :=
  fun h => ⟨h.1 _ .sampleTimeout [] rfl (by decide +kernel), let ⟨t, a, b, _⟩ := h.2 car rfl (by decide +kernel); ⟨t, a, b⟩⟩

theorem witness_ExecKeepsCommandQueue : Obligations.ExecKeepsCommandQueue → queued.pending = queued.pending :=
  fun h => h .roofFrameIgnored queued queued rfl

/-- Full queues: 16 entries in class B, 8 in class C, 8 mirrored copies, 32 notices, the bypass count at 15; both transmitters busy. -/
def brim : State := { powered with
  roof := { powered.roof with
    classB := (List.finRange 16).map fun i => ⟨⟨i.val + 20, by omega⟩, .announceRequest, i.val⟩
    classC := List.replicate 8 ⟨49, 80, [], 1⟩, bypass := 15, tx := some ⟨.classA 9 .sustain, 0, true⟩ }
  fwd := { running.fwd with mirror := List.replicate 8 ⟨49, .report, 0, 80, []⟩ }
  train := { fullQueue with tx := some (.notice 0 ⟨.arcWatch 0 320 640 .collect 1 true, 1⟩) }
  pending := [.sampleTimeout] }

theorem brim_queues : QueuesOk brim := by constructor <;> decide +kernel

theorem witness_QueuesKeepTheirBounds : Obligations.QueuesKeepTheirBounds →
    ∃ t, step brim = .next t ∧ QueuesOk t :=
  fun h => ⟨_, rfl, h brim _ brim_queues rfl⟩

/-- Two lists of options that agree in no key. -/
theorem apart {α : Type} {n : Nat} (v : Vector (Option α) n) (same : α → α → Bool)
    (h : (List.finRange n).all (fun i => (List.finRange n).all fun j => i == j ||
      match v[i], v[j] with | some a, some b => ! same a b | _, _ => true) = true) :
    ∀ i j : Fin n, ∀ a b, v[i] = some a → v[j] = some b → same a b = true → i = j := by
  intro i j a b ha hb hs
  simp only [List.all_eq_true, List.mem_finRange, true_imp_iff] at h
  have := h i j
  rw [ha, hb] at this
  simpa [hs] using this

theorem brim_tables : TablesOk brim := by
  refine ⟨?_, ?_, ?_, by decide +kernel, ?_⟩
  · intro i j a b ha hb e
    exact apart brim.systems (fun a b => decide (a.id = b.id)) (by decide +kernel) i j a b ha hb (by simpa using e)
  · intro i j a b ha hb e n hn hm
    exact apart brim.fwd.windows (fun a b => decide (a.level = b.level) && (List.finRange 63).any fun n =>
      decide (a.first ≤ n) && decide (n ≤ a.last) && decide (b.first ≤ n) && decide (n ≤ b.last)) (by decide +kernel) i j a b ha hb
      (by simpa [e] using ⟨n, ⟨by simpa [WindowEntry.covers] using hn, (by simpa [WindowEntry.covers] using hm : _ ∧ _).1⟩,
        (by simpa [WindowEntry.covers] using hm : _ ∧ _).2⟩)
  · intro i j a b ha hb e f
    exact apart brim.fwd.interlocks (fun a b => decide (a.role = b.role) && decide (a.code = b.code)) (by decide +kernel) i j a b ha hb
      (by simp [e, f])
  · intro i c lo hi h
    cases i <;> first | (cases h; revert c; decide +kernel) | cases h

theorem witness_TablesKeepTheirRules : Obligations.TablesKeepTheirRules →
    ∃ t, step brim = .next t ∧ TablesOk t :=
  fun h => ⟨_, rfl, h brim _ brim_tables rfl⟩

/-- The car POWERED with a command waiting, the collector's counter at its limit, and 60 kW heated under an allowance of 60. -/
def warm : State := { powered with
  channels := powered.channels.set 0 { up .collect with counter := 640 }
  co := poweredCo 2 3, zones := upd (upd powered.zones 2 (heating 0)) 6 (heating 1), pending := [.sampleTimeout] }

theorem witness_TransmittersNeverWait : Obligations.TransmittersNeverWait → ∃ t, step warm = .next t ∧ Settled t :=
  fun h => ⟨_, rfl, h warm _ (by constructor <;> decide +kernel) rfl⟩

theorem witness_ChannelRecordsStayLegal : Obligations.ChannelRecordsStayLegal → ∃ t, step warm = .next t ∧ ChannelsOk t :=
  fun h => ⟨_, rfl, h warm _ (fun c => ⟨by revert c; decide +kernel, by revert c; decide +kernel, by revert c; decide +kernel⟩) rfl⟩

theorem witness_HeatersStayWithinTheAllowance : Obligations.HeatersStayWithinTheAllowance →
    ∃ t, step warm = .next t ∧ HeatersOk t :=
  fun h => ⟨_, rfl, h warm _ (fun _ => by decide +kernel) rfl⟩

theorem witness_ConfigurationChangesOnlyByItsCommands : Obligations.ConfigurationChangesOnlyByItsCommands →
    ∃ t, exec (.powerUp 0 [1]) car = .next t ∧ SameConfiguration car t := fun h => ⟨_, rfl, h (.powerUp 0 [1]) car _ rfl rfl⟩

/-- The car in LOCKOUT with L2 LOCKED. -/
def locked : State := { car with
  channels := car.channels.set 1 { state := .locked, lastFault := .add }, co := { car.co with state := .lockout, lockoutCause := .lowerFail } }

theorem witness_LockedChannelStaysLocked : Obligations.LockedChannelStaysLocked →
    (after .trainTransmissionComplete locked).channels[1].state = .locked ∧ (after (.powerUp 0 [1]) locked).channels[1].state = .locked :=
  fun h => ⟨h .trainTransmissionComplete locked _ 1 (by decide +kernel) rfl (by simp) (by simp) (fun _ => rfl),
    h (.powerUp 0 [1]) locked _ 1 (by decide +kernel) rfl (by simp) (by simp) (by simp)⟩

theorem witness_LockoutStaysUntilCleared : Obligations.LockoutStaysUntilCleared →
    (after .trainTransmissionComplete locked).co.state = .lockout ∧ (after (.powerUp 0 [1]) locked).co.lockoutCause = .lowerFail :=
  fun h => ⟨(h .trainTransmissionComplete locked _ rfl rfl (by simp) (by simp) (fun _ => rfl)).1,
    (h (.powerUp 0 [1]) locked _ rfl rfl (by simp) (by simp) (by simp)).2⟩

/-- The car with depot access. -/
def depot : State := { car with takeover := { car.takeover with access := true } }

theorem witness_NoRoofFrameDuringAGrant : Obligations.NoRoofFrameDuringAGrant →
    Gives .takeoverRequestAsserted depot fun t => granted t = true ∧ t.roof.tx = none :=
  fun h => ⟨_, rfl, by decide +kernel, h .takeoverRequestAsserted depot _ rfl rfl (by decide +kernel)⟩

theorem witness_FramesReadBackAsBuilt : Obligations.FramesReadBackAsBuilt →
    let f : Frame := ⟨1, 63, .report, 255, 16, List.replicate 30 0xFFFF⟩
    judgeFrame f.words = .good f := fun h => h _ (by decide +kernel)

theorem witness_CheckWordSeesOneChangedWord : Obligations.CheckWordSeesOneChangedWord →
    checkWord [0, 1, 2] ≠ checkWord [0, 0xFFFF, 2] := fun h => (h [0] [2] 1 0xFFFF (by decide)).1

/-- A level 1 entry whose ranges hold the figures. -/
abbrev Fits (D : Int) (A F : Nat) (e : SysEntry) : Prop :=
  e.level = 1 ∧ e.dMin ≤ D ∧ D ≤ e.dMax ∧ e.aMin ≤ A ∧ A ≤ e.aMax ∧ e.fMin ≤ F ∧ F ≤ e.fMax

/-- The car with system 1 in two slots under two ids. -/
def twice : State := { car with systems := car.systems.set 5 (some ⟨5, 1, -2000, 2000, 20000, 30000, 420, 580, 3, 1, 1, 120⟩) }

theorem witness_WindowClassification : Obligations.WindowClassification →
    classify car 999 999 0 = .dead ∧ classify car 0 31000 299 = .unknown ∧ classify car 2000 600 50 = .system 2 ∧
    classify twice (-2000) 20000 420 = .ambiguous := by
  intro h
  have none_fits : ∀ i : Fin 8, ∀ e ∈ car.systems[i], ¬ (e.dMin ≤ 0 ∧ 0 ≤ e.dMax ∧ e.aMin ≤ 31000 ∧ 31000 ≤ e.aMax ∧
    e.fMin ≤ 299 ∧ 299 ≤ e.fMax) := by decide
  have one_fits : ∀ i : Fin 8, ∀ e ∈ car.systems[i], Fits 2000 600 50 e → i = 2 := by decide
  refine ⟨(h car 999 999 0).1 (by decide), (h car 0 31000 299).2.1 (by decide) ?_,
    ((h car 2000 600 50).2.2 (by decide) 1 2 _ (by decide) (by decide) ⟨rfl, by decide⟩ (by omega)).1 ?_,
    ((h twice (-2000) 20000 420).2.2 (by decide) 1 0 _ (by decide) (by decide) ⟨rfl, by decide⟩ (by omega)).2 5 _ ⟨rfl, by decide⟩
      (by decide)⟩
  · rintro l i e ⟨_, _, he, _, hf⟩
    exact none_fits i e he hf
  · rintro j f ⟨hf, hr⟩
    exact one_fits j f hf hr

theorem witness_ConfirmationCountsRuns : Obligations.ConfirmationCountsRuns →
    (countRun .dead { ({} : Recog) with candidate := .dead, run := 15 }).run = 15 ∧ (countRun .dead { ({} : Recog) with run := 15 }).run = 1 ∧
    (countRun .dead { ({} : Recog) with candidate := .dead }).run = 1 := by
  intro h
  refine ⟨?_, ?_, ((h .dead { ({} : Recog) with candidate := .dead }).2.2 rfl).2⟩
  · rw [(h .dead _).1 rfl]; rfl
  · rw [(h .dead _).2.1 (by decide)]

/-- The car with a candidate one window short of the confirm count of system 3, and at it. -/
def short (run : Nat) : State := { car with recog := { car.recog with candidate := .system 2, run := run } }

theorem witness_ConfirmedResultIsTaken : Obligations.ConfirmedResultIsTaken →
    (confirmResult (.system 2) (short 2)).recog.result = .system 2 ∧ (confirmResult (.system 2) (short 1)).recog.result = .system 0 := by
  intro h
  refine ⟨?_, ?_⟩
  · rw [(h (short 2) (.system 2) (.inl rfl)).1 (by decide) (by decide)]
  · rw [(h (short 1) (.system 2) (.inl rfl)).2 (.inl (by decide))]; decide

/-- The car with a line stream: the sequence last received and the samples so far in the window. -/
def streaming (q : Byte) (count : Nat) : State := { car with recog := { car.recog with
  stream := .live, lastSeq := some q, sampleTimeout := some 20, sampleCount := count, run := 2, gapCount := 255 } }

theorem witness_SampleFrameEntersTheWindow : Obligations.SampleFrameEntersTheWindow →
    Gives (.sample 4 0 (List.replicate 16 5)) (streaming 255 928) (fun t => t.recog.sampleCount = 944 ∧ t.recog.sumS = 80) ∧
    Gives (.sample 4 1 (List.replicate 16 5)) (streaming 255 928) (fun t => t.recog.sampleCount = 16 ∧ t.recog.gapCount = 255) ∧
    Gives (.sample 4 1 (List.replicate 16 0xFFFF)) car (fun t => t.recog.stream = .live ∧ t.recog.sumS = -16) := by
  intro h
  refine ⟨of_exec (h (streaming 255 928) 4 0 (List.replicate 16 5) (taken _ _ ?_) ?_ ?_ ?_) ?_, of_exec (h (streaming 255 928) 4 1 (List.replicate 16 5) (taken _ _ ?_) ?_ ?_ ?_) ?_,
    of_exec (h car 4 1 (List.replicate 16 0xFFFF) (taken _ _ ?_) ?_ ?_ ?_) ?_⟩ <;> decide +kernel

theorem witness_SampleTimeoutMakesTheStreamStale : Obligations.SampleTimeoutMakesTheStreamStale →
    Gives .sampleTimeout car (fun t => t.recog.stream = .waiting) ∧
    Gives .sampleTimeout (streaming 7 400) (fun t => t.recog.result = .stale ∧ t.train.tx ≠ none) := by
  intro h
  refine ⟨of_exec ((h car ?_).1 ?_) ?_, of_exec ((h (streaming 7 400) ?_).2 ?_ ?_ ?_) ?_⟩ <;> decide +kernel

/-- The car with an auxiliary node that is MISMATCH, and check-failure counts at their bound. -/
def worn : State := { car with
  nodes := upd car.nodes 49 fun r => { r with presence := .mismatch }, roofCheckFail := 65535, train := { car.train with checkFail := 65535 } }

theorem witness_FramesWithLittleOrNoEffect : Obligations.FramesWithLittleOrNoEffect →
    Gives .roofFrameIgnored car (fun _ => True) ∧ Gives .trainFrameIgnored car (fun t => t.train.silence = some 2000) ∧
    Gives (.roofFrameCheckFailure .check) worn (fun t => t.roofCheckFail = 65535) ∧
    Gives (.trainFrameCheckFailure .length) worn (fun t => t.train.checkFail = 65535) ∧
    Gives (.contact 49 0 [6]) worn (fun _ => True) ∧ Gives (.ack 60 0 80 [17]) worn (fun _ => True) ∧
    Gives (.announce 60 0 [6, 0]) worn (fun t => t.nodes[60].declRole = some 6) ∧
    Gives (.unknownReport 49 0 9 []) car (fun t => t.nodes[49].age = 0) := by
  intro h
  refine ⟨of_exec ((h.1 car).1) ?_, of_exec ((h.1 car).2.1) ?_, of_exec (((h.1 worn).2.2 ?_ .check).1) ?_,
    of_exec (((h.1 worn).2.2 ?_ .length).2) ?_, of_exec (((h.2.1 worn 49 0 0 [6] ?_).1 ?_).2.2.2.1) ?_,
    of_exec (((h.2.1 worn 60 0 80 [17] ?_).1 ?_).2.1) ?_, of_exec ((h.2.1 worn 60 0 0 [6, 0] ?_).2 ?_ 6 0 [] rfl) ?_,
    of_exec (h.2.2 car 49 0 9 [] (taken _ _ ?_)) ?_⟩ <;> decide +kernel

/-- A mirrored copy of node 50. -/
def copy50 : MirrorCopy := ⟨49, .report, 0, 80, []⟩

/-- The car with the windows of chapter 07 and copies waiting. -/
def mirroring (copies : Nat) : State := { running with fwd := { running.fwd with mirror := List.replicate copies copy50, mirrorLoss := 65535 } }

theorem witness_MirrorTakesCopies : Obligations.MirrorTakesCopies →
    (offerMirror copy50 (mirroring 7)).fwd.mirror.length = 8 ∧ (offerMirror copy50 (mirroring 8)).fwd.mirrorLoss = 65535 ∧
    offerMirror { copy50 with src := 28 } (mirroring 7) = mirroring 7 ∧ offerMirror copy50 car = car := by
  intro h
  have one : ∀ n, ∀ i : Fin 16, ∀ w ∈ (mirroring n).fwd.windows[i], w.level = 1 ∧ w.first ≤ 49 ∧ (49 : Node) ≤ w.last → w = ⟨49, 58, 1, .pass, true⟩ := by
    intro n; show ∀ i : Fin 16, ∀ w ∈ running.fwd.windows[i], w.level = 1 ∧ w.first ≤ 49 ∧ (49 : Node) ≤ w.last → w = ⟨49, 58, 1, .pass, true⟩
    decide
  have empty : ∀ i : Fin 16, car.fwd.windows[i] = none := by decide
  have two : ∀ i : Fin 16, ∀ w ∈ running.fwd.windows[i], w.level = 2 ∧ w.first ≤ 28 ∧ (28 : Node) ≤ w.last → w = ⟨19, 28, 2, .chk, false⟩ := by decide
  have less : ∀ i : Fin 16, ∀ w ∈ running.fwd.windows[i], w.level = 1 ∧ w.first ≤ 28 → ¬ (28 : Node) ≤ w.last := by decide
  refine ⟨?_, ?_, ?_, ?_⟩
  · rw [((h (mirroring 7) copy50).1 1 4 ⟨49, 58, 1, .pass, true⟩ (by decide) (by decide) (by decide +kernel) ?_ ?_).2.1 rfl (by decide +kernel)]
    · decide +kernel
    · exact fun j f hf => one 7 j f hf.1 hf.2
    · intro k; omega
  · rw [((h (mirroring 8) copy50).1 1 4 ⟨49, 58, 1, .pass, true⟩ (by decide) (by decide) (by decide +kernel) ?_ ?_).2.2 rfl (by decide +kernel)]
    · decide +kernel
    · exact fun j f hf => one 8 j f hf.1 hf.2
    · intro k; omega
  · refine ((h (mirroring 7) { copy50 with src := 28 }).1 2 1 ⟨19, 28, 2, .chk, false⟩ (by decide) (by decide) (by decide +kernel) ?_ ?_).1 rfl
    · exact fun j f hf => two j f hf.1 hf.2
    · intro k j f hk hk2 hf
      obtain rfl : k = 1 := by omega
      exact less j f hf.1 ⟨hf.2.1, hf.2.2.1⟩ hf.2.2.2
  · refine (h car copy50).2 ?_
    rintro l i w _ _ ⟨hw, _⟩
    exact absurd (hw.symm.trans (empty i)) (by simp)

/-- The car with L1 in a state, as the collector or not, its counter at 20, and the controller in a state. -/
def withL1 (c : ChanState) (co : CoState) (collector : Bool) : State := { powered with
  channels := powered.channels.set 0 { up .collect with
    state := c, duty := if c = .up ∨ c = .raising then .collect else .noDuty, counter := if c = .down ∨ c = .raising then 0 else 20 }
  recog := {}, co := { poweredCo 0 1 with state := co, collector := if collector then some 0 else none } }

theorem witness_ContactReportIsTaken : Obligations.ContactReportIsTaken →
    Gives (.contact 20 0 [0xF6]) (withL1 .down .idle false) (fun t => t.positions[0].lastPos = some .up ∧ t.channels[0].state = .down) ∧
    Gives (.contact 20 0 [2]) (withL1 .raising .raising true) (fun t => t.channels[0].state = .raising) ∧
    Gives (.contact 20 0 [5]) (withL1 .lowering .idle false) (fun t => t.channels[0].counter = 20) ∧
    Gives (.contact 20 0 [6]) (withL1 .up .powered true) (fun t => t.channels[0].counter = 19) ∧
    Gives (.contact 20 0 [5]) { powered with channels := powered.channels.set 0 (up .collect) } (fun t => t.channels[0].counter = 0) ∧
    Gives (.contact 20 0 [0xF6]) (withL1 .up .powered true) (fun t => t.channels[0].counter = 260) ∧
    Gives (.contact 20 0 [2]) (withL1 .up .powered true) (fun t => t.channels[0].counter = 36) := by
  intro h
  refine ⟨of_exec ((h (withL1 .down .idle false) 20 0 0xF6 [] 0 0 .up true 15 (taken _ _ ?_) ?_ ?_ ?_ ?_).1 ?_) ?_,
    of_exec ((h (withL1 .raising .raising true) 20 0 2 [] 0 0 .up false 0 (taken _ _ ?_) ?_ ?_ ?_ ?_).1 ?_) ?_,
    of_exec ((h (withL1 .lowering .idle false) 20 0 5 [] 0 0 .travel true 0 (taken _ _ ?_) ?_ ?_ ?_ ?_).1 ?_) ?_,
    of_exec ((h (withL1 .up .powered true) 20 0 6 [] 0 0 .up true 0 (taken _ _ ?_) ?_ ?_ ?_ ?_).2.1 ?_ ?_ ?_ ?_) ?_,
    of_exec ((h { powered with channels := powered.channels.set 0 (up .collect) } 20 0 5 [] 0 0 .travel true 0 (taken _ _ ?_) ?_ ?_ ?_ ?_).2.1 ?_ ?_ ?_ ?_) ?_,
    of_exec ((h (withL1 .up .powered true) 20 0 0xF6 [] 0 0 .up true 15 (taken _ _ ?_) ?_ ?_ ?_ ?_).2.2 ?_ ?_ ?_ ?_) ?_,
    of_exec ((h (withL1 .up .powered true) 20 0 2 [] 0 0 .up false 0 (taken _ _ ?_) ?_ ?_ ?_ ?_).2.2 ?_ ?_ ?_ ?_) ?_⟩ <;> decide +kernel

theorem witness_CollectorReachesTheWire : Obligations.CollectorReachesTheWire →
    Gives (.contact 20 0 [6]) (withL1 .raising .raising true) fun t => t.co.state = .recognizing ∧ t.co.phase = some (.recognitionDeadline, 5000) := by
  intro h
  refine of_exec (h (withL1 .raising .raising true) 20 0 6 [] 0 0 0 (taken _ _ ?_) ?_ ?_ ?_ ?_ ?_ ?_ ?_ ?_ ?_) ?_ <;> decide +kernel

/-- L1 LOWERING with a cause and a last fault, the controller IDLE. -/
def lowered (cause : LowerCause) (f : ChanFault) : State := { car with
  channels := car.channels.set 0 { state := .lowering, phase := some (.lowerWindow, 5), cause := some cause, lastFault := f, counter := 20, lowerRep := some 9 } }

theorem witness_ReportsEndALoweringOrLock : Obligations.ReportsEndALoweringOrLock →
    Gives (.contact 20 0 [0]) (lowered .order .add) (fun t => t.channels[0].state = .down) ∧
    Gives (.contact 20 0 [0]) (lowered .fault .contactLoss) (fun t => t.channels[0].phase = some (.cooldown, 30000)) ∧
    Gives (.contact 20 0 [0]) (lowered .fault .add) (fun t => t.channels[0].state = .locked) ∧
    Gives (.contact 23 0 [8]) dropCar (fun t => t.channels[3].state = .locked ∧ t.channels[3].phase = none) ∧
    Gives (.contact 20 0 [10]) dropCar (fun t => t.channels[0].lastFault = .add) := by
  intro h
  refine ⟨of_exec (h.1 (lowered .order .add) 20 0 0 [] 0 0 false 0 (taken _ _ ?_) ?_ ?_ ?_ ?_ ?_ ?_) ?_,
    of_exec (h.1 (lowered .fault .contactLoss) 20 0 0 [] 0 0 false 0 (taken _ _ ?_) ?_ ?_ ?_ ?_ ?_ ?_) ?_,
    of_exec (h.1 (lowered .fault .add) 20 0 0 [] 0 0 false 0 (taken _ _ ?_) ?_ ?_ ?_ ?_ ?_ ?_) ?_,
    of_exec (h.2 dropCar 23 0 8 [] 3 3 .down false 0 (taken _ _ ?_) ?_ ?_ ?_ ?_ ?_) ?_,
    of_exec (h.2 dropCar 20 0 10 [] 0 0 .up false 0 (taken _ _ ?_) ?_ ?_ ?_ ?_ ?_) ?_⟩ <;> decide +kernel

/-- The car in a changeover state with a close progress. -/
def inState (co : CoState) (close : CloseProgress) : State := { powered with co := { poweredCo 0 1 with state := co, close := close } }

/-- A POWER-DOWN takes the path down through OPENING with plan IDLE. -/
def goingDown : State := { powered with co := { poweredCo 0 1 with state := .opening, close := .notPlaced, plan := .idle } }

/-- The CLOSE has departed. -/
def powering : State := busy (inState .closing .transmitted)

theorem witness_BreakerReportIsTaken : Obligations.BreakerReportIsTaken →
    Gives (.breakerState 9 0 [0]) (inState .lockout .transmitted) (fun t => t.co.close = .notPlaced) ∧
    Gives (.breakerState 9 0 [0]) (inState .closing .transmitted) (fun t => t.co.close = .transmitted) ∧
    Gives (.breakerState 9 0 [2]) (inState .opening .notPlaced) (fun t => t.co.lastBreaker = some .travel) ∧
    Gives (.breakerState 9 0 [1]) (inState .closing .queued) (fun t => t.co.state = .closing) ∧
    Gives (.breakerState 9 0 [1]) (inState .neutral .notPlaced) (fun t => t.co.openRep = some 100) ∧
    Gives (.breakerState 9 0 [1]) goingDown (fun t => t.co.openRep = some 100 ∧ t.co.state = .opening) ∧
    Gives (.breakerState 9 0 [1]) (inState .opening .notPlaced) (fun t => t.co.openRep = none) ∧
    ∃ v, exec (.breakerState 9 0 [1]) powering = .next (follows powering v) ∧ v.co.state = .powered := by
  intro h
  obtain ⟨v, hv, hc, _⟩ := (h.2 powering 9 0 1 [] (taken _ _ (by decide +kernel)) (by decide +kernel) (by decide +kernel) rfl rfl)
  refine ⟨of_exec ((h.1 (inState .lockout .transmitted) 9 0 0 [] .opened (taken _ _ ?_) ?_ ?_ ?_).1 rfl ?_ ?_) ?_,
    of_exec ((h.1 (inState .closing .transmitted) 9 0 0 [] .opened (taken _ _ ?_) ?_ ?_ ?_).1 rfl ?_ ?_) ?_,
    of_exec ((h.1 (inState .opening .notPlaced) 9 0 2 [] .travel (taken _ _ ?_) ?_ ?_ ?_).2.1 ?_) ?_,
    of_exec ((h.1 (inState .closing .queued) 9 0 1 [] .closed (taken _ _ ?_) ?_ ?_ ?_).2.1 ?_) ?_,
    of_exec ((h.1 (inState .neutral .notPlaced) 9 0 1 [] .closed (taken _ _ ?_) ?_ ?_ ?_).2.2 rfl ?_) ?_,
    of_exec ((h.1 goingDown 9 0 1 [] .closed (taken _ _ ?_) ?_ ?_ ?_).2.2 rfl ?_) ?_,
    of_exec ((h.1 (inState .opening .notPlaced) 9 0 1 [] .closed (taken _ _ ?_) ?_ ?_ ?_).2.1 ?_) ?_, v, hv, by rw [hc]⟩ <;>
  decide +kernel

/-- The car POWERED under system 1 with the changeover switch in a state of the path and a phase timer. -/
def switching (co : CoState) (phase : Option (CoTimer × Nat)) : State := { powered with
  co := { poweredCo 0 1 with state := co, phase := phase, close := .notPlaced } }

theorem witness_SwitchReportIsTaken : Obligations.SwitchReportIsTaken →
    Gives (.switchState 10 0 [4]) (switching .neutral none) (fun t => t.co.lastSwitch = some 4) ∧
    Gives (.switchState 10 0 [3]) car (fun t => t.co.lastSwitch = some 3 ∧ t.co.active = none) ∧
    Gives (.switchState 10 0 [1]) powered (fun t => t.co.state = .powered) ∧
    Gives (.switchState 10 0 [0]) (switching .switching (some (.switchWindow, 0))) (fun t => t.co.phase = some (.switchWindow, 0)) ∧
    Gives (.switchState 10 0 [1]) (switching .switching (some (.switchWindow, 0))) (fun t => t.co.phase = some (.settleInterval, 200)) ∧
    Gives (.switchState 10 0 [1]) (switching .switching (some (.settleInterval, 9))) (fun t => t.co.phase = some (.settleInterval, 9)) ∧
    Gives (.switchState 10 0 [0]) (switching .switching (some (.settleInterval, 9))) (fun t => t.co.phase = some (.switchWindow, 4000)) := by
  intro h
  have e := (rfl : sysEntry? powered 0 = some ⟨0, 1, -2000, 2000, 20000, 30000, 420, 580, 3, 1, 1, 120⟩)
  refine ⟨of_exec ((h (switching .neutral none) 10 0 4 [] (taken _ _ ?_) ?_ ?_).1 ?_ ?_ ?_) ?_,
    of_exec ((h car 10 0 3 [] (taken _ _ ?_) ?_ ?_).1 ?_ ?_ ?_) ?_,
    of_exec (((h powered 10 0 1 [] (taken _ _ ?_) ?_ ?_).2 0 _ ?_ e).1 ?_ ?_) ?_,
    of_exec ((((h (switching .switching (some (.switchWindow, 0))) 10 0 0 [] (taken _ _ ?_) ?_ ?_).2 0 _ ?_ e).2.1 0 ?_ ?_).1 ?_) ?_,
    of_exec ((((h (switching .switching (some (.switchWindow, 0))) 10 0 1 [] (taken _ _ ?_) ?_ ?_).2 0 _ ?_ e).2.1 0 ?_ ?_).2 ?_ ?_) ?_,
    of_exec ((((h (switching .switching (some (.settleInterval, 9))) 10 0 1 [] (taken _ _ ?_) ?_ ?_).2 0 _ ?_ e).2.2 9 ?_ ?_).1 ?_) ?_,
    of_exec ((((h (switching .switching (some (.settleInterval, 9))) 10 0 0 [] (taken _ _ ?_) ?_ ?_).2 0 _ ?_ e).2.2 9 ?_ ?_).2 ?_) ?_⟩ <;>
  decide +kernel

theorem witness_ContactorReportIsTaken : Obligations.ContactorReportIsTaken →
    Gives (.contactorState 32 0 [0]) warm (fun t => t.zones[2].lastReport = some .off) ∧
    Gives (.contactorState 32 0 [1]) warm (fun t => t.zones[2].state = .heating) ∧
    Gives (.contactorState 33 0 [2]) warm (fun t => t.zones[3].lastReport = some .fault) ∧
    Gives (.contactorState 33 0 [1]) warm (fun t => t.roof.tx ≠ none) := by
  intro h
  refine ⟨of_exec ((h warm 32 0 0 [] 2 .off [] (taken _ _ ?_) ?_ ?_ ?_).1 ?_) ?_,
    of_exec ((h warm 32 0 1 [] 2 .on [] (taken _ _ ?_) ?_ ?_ ?_).1 ?_) ?_,
    of_exec ((h warm 33 0 2 [] 3 .fault [] (taken _ _ ?_) ?_ ?_ ?_).1 ?_) ?_,
    of_exec ((h warm 33 0 1 [] 3 .on [⟨33, .heatOff 3, 0⟩] (taken _ _ ?_) ?_ ?_ ?_).2 ?_ ?_ ?_) ?_⟩ <;> decide +kernel

/-- Sixteen class B entries for nodes 1 to 16, the one at index 3 an ANNOUNCE-REQUEST or not. -/
def sixteen (request : Bool) : List BEntry :=
  (List.finRange 16).map fun i => ⟨⟨i.val, by omega⟩, if request = true ∧ i.val = 3 then .announceRequest else .close, i.val⟩

theorem witness_ClassBPlacement : Obligations.ClassBPlacement →
    insertB ⟨3, .heatOn 0, 16⟩ (sixteen false) = some ((sixteen false).take 3 ++ ⟨3, .heatOn 0, 16⟩ :: (sixteen false).drop 4) ∧
    insertB ⟨20, .close, 16⟩ ((sixteen false).take 15) = some ((sixteen false).take 15 ++ [⟨20, .close, 16⟩]) ∧
    insertB ⟨20, .close, 16⟩ (sixteen true) = some ((sixteen true).take 3 ++ (sixteen true).drop 4 ++ [⟨20, .close, 16⟩]) ∧
    insertB ⟨20, .close, 16⟩ (sixteen false) = none := fun h =>
  ⟨(h _ _).1 _ _ ⟨3, .close, 3⟩ (by decide +kernel) rfl (by decide +kernel), (h _ _).2.1 (by decide +kernel) (by decide +kernel),
    (h _ _).2.2.1 (by decide +kernel) rfl _ _ ⟨3, .announceRequest, 3⟩ (by decide +kernel) rfl (by decide +kernel),
    (h _ _).2.2.2 (by decide +kernel) rfl (by decide +kernel)⟩

theorem witness_AnnounceIsJudged : Obligations.AnnounceIsJudged →
    Gives (.announce 22 0 [1, 3]) car (fun t => t.nodes[22].presence = .present) ∧
    Gives (.announce 49 0 [6, 4]) worn (fun t => t.nodes[49].presence = .present) ∧
    Gives (.announce 49 0 [6, 5]) worn (fun t => t.nodes[49].presence = .mismatch) ∧
    Gives (.announce 4 0 [6, 0]) car (fun t => t.nodes[4].presence = .mismatch) ∧
    Gives (.announce 49 0 [6, 5]) car (fun t => t.nodes[49].declClass = some 5) := by
  intro h
  have own : ∀ (r : Prop) p a, posNaming? car 22 = some p → car.positions[p].assigned = some a → (3 : Word).toNat = number a.cls := by
    intro _ p a hp ha
    cases hp.symm.trans (rfl : posNaming? car 22 = some 2)
    cases ha.symm.trans (rfl : car.positions[(2 : Pos)].assigned = some ⟨22, 2, some 2⟩)
    rfl
  refine ⟨of_exec ((h.1 car 22 0 1 3 [] ?_ ?_ ?_ ?_ ?_ (fun x => own (car.nodes[22].role = .pantographUnit))).1 ?_) ?_,
    of_exec ((h.1 worn 49 0 6 4 [] ?_ ?_ ?_ ?_ ?_ (fun x => absurd x ?_)).2 ?_) ?_,
    of_exec ((h.2 worn 49 0 6 5 [] ?_ ?_ ?_ ?_ ?_).1 ?_) ?_,
    of_exec ((h.2 car 4 0 6 0 [] ?_ ?_ ?_ ?_ ?_).2 ?_) ?_,
    of_exec ((h.2 car 49 0 6 5 [] ?_ ?_ ?_ ?_ ?_).2 ?_) ?_⟩ <;> decide +kernel

/-- The car with a node's outstanding slot filled at roof sequence 7, heard from but SILENT. -/
def outstanding (n : Node) (from' : Originator) : State := busy { powered with
  nodes := upd powered.nodes n fun r => { r with presence := .silent, slot := some ⟨80, 7, from', 50⟩ } }

theorem witness_AckAndDeadlineEmptyTheSlot : Obligations.AckAndDeadlineEmptyTheSlot →
    Gives (.ack 49 7 80 [17, 9]) (outstanding 49 (.train 5)) (fun t => t.nodes[49].slot = none ∧ t.nodes[49].presence = .present ∧
      t.train.responses = [⟨5, 80, .accepted, [9]⟩]) ∧
    Gives (.ack 49 7 80 [18]) (outstanding 49 (.train 5)) (fun t => t.train.responses = [⟨5, 80, .rejected, []⟩]) ∧
    Gives (.ack 9 7 80 [17]) (outstanding 9 (.part .close 0)) (fun t => t.nodes[9].slot = none ∧ t.train.responses = []) ∧
    Gives (.ack 9 7 80 [18]) (outstanding 9 (.part .announceRequest 0)) (fun t => t.nodes[9].slot = none) ∧
    Gives (.ack 49 6 80 [17]) (outstanding 49 (.train 5)) (fun t => t.nodes[49].slot ≠ none) ∧
    Gives (.ack 49 7 80 []) (outstanding 49 (.train 5)) (fun t => t.nodes[49].slot ≠ none) ∧
    Gives (.ack 49 7 80 [19]) (outstanding 49 (.train 5)) (fun t => t.nodes[49].slot ≠ none) ∧
    Gives (.ackDeadlineExpiry 49) (outstanding 49 (.train 5)) (fun t => t.train.responses = [⟨5, 80, .timeout, []⟩]) ∧
    Gives (.ack 49 7 80 [17]) (busy powered) (fun t => t.nodes[49].age = 0 ∧ t.train.responses = []) ∧
    Gives (.ackDeadlineExpiry 49) (busy powered) (fun t => t.nodes[49].slot = none) := by
  intro h
  refine ⟨of_exec ((h.2 (outstanding 49 (.train 5)) 49 7 80 _ _ rfl).1 17 [9] (taken _ _ ?_) rfl rfl (.inl rfl)) ?_,
    of_exec ((h.2 (outstanding 49 (.train 5)) 49 7 80 _ _ rfl).1 18 [] (taken _ _ ?_) rfl rfl (.inr ⟨rfl, fun _ _ e => by cases e⟩)) ?_,
    of_exec ((h.2 (outstanding 9 (.part .close 0)) 9 7 80 _ _ rfl).1 17 [] (taken _ _ ?_) rfl rfl (.inl rfl)) ?_,
    of_exec ((h.2 (outstanding 9 (.part .announceRequest 0)) 9 7 80 _ _ rfl).1 18 [] (taken _ _ ?_) rfl rfl (.inr ⟨rfl, fun _ _ e => by cases e; rfl⟩)) ?_,
    of_exec ((h.2 (outstanding 49 (.train 5)) 49 6 80 [17] _ rfl).2.1 (taken _ _ ?_) (.inl ?_)) ?_,
    of_exec ((h.2 (outstanding 49 (.train 5)) 49 7 80 [] _ rfl).2.1 (taken _ _ ?_) (.inr (.inl rfl))) ?_,
    of_exec ((h.2 (outstanding 49 (.train 5)) 49 7 80 [19] _ rfl).2.1 (taken _ _ ?_) (.inr (.inr fun _ _ e => by cases e; decide))) ?_,
    of_exec ((h.2 (outstanding 49 (.train 5)) 49 0 0 [] _ rfl).2.2 rfl (fun _ _ e => by cases e)) ?_,
    of_exec ((h.1 (busy powered) 49 7 80 [17] ?_).1 (taken _ _ ?_)) ?_,
    of_exec ((h.1 (busy powered) 49 0 0 [] ?_).2 ?_) ?_⟩ <;> decide +kernel

theorem witness_SilentNodeIsReported : Obligations.SilentNodeIsReported →
    Gives (.nodeSilence 60) car (fun t => t.nodes[60].presence = .absent) ∧
    Gives (.nodeSilence 9) car (fun t => t.nodes[9].presence = .silent ∧ t.co.lastBreaker = none) ∧
    Gives (.nodeSilence 20) car (fun t => t.nodes[20].presence = .silent) ∧ Gives (.nodeSilence 33) warm (fun t => t.nodes[33].presence = .silent) := by
  intro h
  have c : ∀ n : Node, ∀ c : Chan, raised car c = false := by decide
  have z : ∀ z : Zone, (zoneOfNode? warm 33) = some z → warm.zones[z].state ≠ .heating := of_some (b := 3) rfl (by decide)
  refine ⟨of_exec ((h car 60 ?_).1 ?_) ?_, of_exec ((h car 9 ?_).2 ?_ ?_ ?_ (fun _ d _ => c 9 d) (fun x => absurd x ?_)) ?_,
    of_exec ((h car 20 ?_).2 ?_ ?_ ?_ (fun _ d _ => c 9 d) (fun x => absurd x ?_)) ?_,
    of_exec ((h warm 33 ?_).2 ?_ ?_ ?_ (fun x => absurd x ?_) (fun _ => z)) ?_⟩ <;> decide +kernel

/-- The car with the response queue full, or a PART-RESET pending. -/
def fullTrain : State := { car with train := { car.train with responses := List.replicate 8 ⟨0, 1, .ok, []⟩, reqDiscard := 65535, tx := some (.response ⟨0, 1, .ok, []⟩) } }
def resetting : State := { car with train := { car.train with resetPending := true } }

theorem witness_TrainFramesTurnedAway : Obligations.TrainFramesTurnedAway →
    Gives (.powerUp 0 [1]) fullTrain (fun t => t.train.reqDiscard = 65535 ∧ t.co.state = .idle) ∧
    Gives (.unknownRequest 0 77 []) resetting (fun t => t.train.reqDiscard = 1) ∧
    Gives (.nodeCommand 49 0 70 []) resetting (fun t => t.fwd.discarded = 0) ∧
    Gives (.nodeCommand 49 0 70 []) fullTrain (fun t => t.fwd.discarded = 1) ∧
    Gives (.loadEntryWindow 0 (List.replicate 6 0)) powered (fun t => t.train.tx = some (.response ⟨0, 2, .frozen, []⟩)) ∧
    Gives (.clearEntryNode 0 [1]) (inState .coasting .notPlaced) (fun t => t.train.tx = some (.response ⟨0, 4, .frozen, []⟩)) := by
  intro h
  refine ⟨of_exec ((h fullTrain ?_).1 (.powerUp 0 [1]) 0 16 ?_ ?_) ?_, of_exec ((h resetting ?_).1 (.unknownRequest 0 77 []) 0 77 ?_ ?_) ?_,
    of_exec (((h resetting ?_).2.1 49 0 70 []).1 ?_) ?_, of_exec (((h fullTrain ?_).2.1 49 0 70 []).2 ?_ ?_) ?_,
    of_exec ((h powered ?_).2.2 ?_ ?_ ?_ (.loadEntryWindow 0 (List.replicate 6 0)) 0 2 (.inl ⟨rfl, _, .inr (.inr (.inr (.inl ⟨rfl, ?_⟩)))⟩)) ?_,
    of_exec ((h (inState .coasting .notPlaced) ?_).2.2 ?_ ?_ ?_ (.clearEntryNode 0 [1]) 0 4
      (.inr ⟨rfl, [1], ?_, .inr (.inr (.inl rfl))⟩)) ?_⟩ <;> decide +kernel

theorem witness_ReadsAndUnknownRequestsChangeNothing : Obligations.ReadsAndUnknownRequestsChangeNothing →
    Gives (.unknownRequest 0 5 []) car (fun t => t.train.tx = some (.response ⟨0, 5, .unknownRequest, []⟩)) ∧
    Gives (.unknownRequest 0 31 []) car (fun t => t.train.tx = some (.response ⟨0, 31, .unknownRequest, []⟩)) ∧
    (∃ d, exec (.readStatus 0 [6, 63]) car = .next (follows car { car with train := answered car 0 1 .ok d })) ∧
    Gives (.readStatus 0 [6, 64]) car (fun t => t.train.tx = some (.response ⟨0, 1, .badEntry, []⟩)) ∧
    Gives (.readStatus 0 [2, 0]) car (fun t => t.train.tx = some (.response ⟨0, 1, .ok, [1, 0, 0, 0, 0, 0, 0, 0, 0, 0, 0, 0]⟩)) ∧
    Gives (.readEntry 0 [1, 8]) car (fun t => t.train.tx = some (.response ⟨0, 3, .ok, [0]⟩)) ∧
    Gives (.readEntry 0 [1, 1]) car (fun t => t.train.tx =
      some (.response ⟨0, 3, .ok, [1, 1, 1, 0xFFFF, 0xF830, 0, 2000, 20000, 30000, 420, 580, 3, 1, 1, 120]⟩)) := by
  intro h
  refine ⟨of_exec ((h car 0 (decides _ ?_)).1 5 [] ?_ ?_) ?_, of_exec ((h car 0 (decides _ ?_)).1 31 [] ?_ ?_) ?_,
    ((h car 0 (decides _ ?_)).2.1 6 63 []).1 (.inr (.inr (.inr ?_))), of_exec (((h car 0 (decides _ ?_)).2.1 6 64 []).2 ?_) ?_,
    of_exec ((h car 0 (decides _ ?_)).2.2.1 []) ?_, of_exec (((h car 0 (decides _ ?_)).2.2.2.1 7 []).1 ?_) ?_,
    of_exec (((h car 0 (decides _ ?_)).2.2.2.1 0 []).2 _ rfl) ?_⟩ <;> decide +kernel

theorem witness_SystemTableLoadAndClear : Obligations.SystemTableLoadAndClear →
    Gives (.loadEntrySystem 0 [8, 6, 9, 0xFFF0, 0, 0x7FFF, 0xFFFF, 0, 65535, 0, 65535, 99, 15, 9, 999]) car (fun t =>
      t.systems[7] = some ⟨5, 3, -65536, 65535, 0, 65535, 0, 9999, 15, 15, 4, 250⟩) ∧
    Gives (.loadEntrySystem 0 [8, 6, 0, 0, 1, 0, 0, 0, 0, 0, 0, 0, 1, 0, 0]) car (fun t => t.train.tx = some (.response ⟨0, 2, .badEntry, []⟩)) ∧
    Gives (.loadEntrySystem 0 [8, 6, 0, 0, 0, 0, 0, 0, 0, 0, 0, 0, 16, 0, 0]) car (fun t => t.train.tx = some (.response ⟨0, 2, .badEntry, []⟩)) ∧
    Gives (.loadEntrySystem 0 [8, 5, 0, 0, 0, 0, 0, 0, 0, 0, 0, 0, 1, 0, 0]) car (fun t => t.train.tx = some (.response ⟨0, 2, .duplicate, []⟩)) ∧
    Gives (.clearEntrySystem 0 [1]) car (fun t => t.systems[0] = none) := by
  intro h
  have free : ∀ j : Fin 8, ∀ x ∈ car.systems[j], x.id ≠ 5 := by decide
  refine ⟨of_exec (((h car 0 7 8 [] (decides _ ?_) ?_ ?_).1 5 6 9 0xFFF0 0 0x7FFF 0xFFFF 0 65535 0 65535 99 15 9 999 ?_).2.2 ?_
      (fun ⟨j, x, _, hx, hk⟩ => free j x hx hk)) ?_,
    of_exec (((h car 0 7 8 [] (decides _ ?_) ?_ ?_).1 5 6 0 0 1 0 0 0 0 0 0 0 1 0 0 ?_).1 ?_) ?_,
    of_exec (((h car 0 7 8 [] (decides _ ?_) ?_ ?_).1 5 6 0 0 0 0 0 0 0 0 0 0 16 0 0 ?_).1 ?_) ?_,
    of_exec (((h car 0 7 8 [] (decides _ ?_) ?_ ?_).1 4 5 0 0 0 0 0 0 0 0 0 0 1 0 0 ?_).2.1 ?_ ⟨4, _, ?_, rfl, rfl⟩) ?_,
    of_exec ((h car 0 0 1 [] (decides _ ?_) ?_ ?_).2) ?_⟩ <;> decide +kernel

/-- The car at rest with the tables of chapter 07. -/
def tabled : State := { car with fwd := running.fwd }

theorem witness_WindowAndInterlockLoadAndClear : Obligations.WindowAndInterlockLoadAndClear →
    Gives (.loadEntryWindow 0 [16, 2, 1, 0, 0, 0]) tabled (fun t => t.train.tx = some (.response ⟨0, 2, .badEntry, []⟩)) ∧
    Gives (.loadEntryWindow 0 [16, 59, 63, 0, 2, 1]) tabled (fun t => t.train.tx = some (.response ⟨0, 2, .overlap, []⟩)) ∧
    Gives (.loadEntryWindow 0 [16, 60, 63, 9, 2, 1]) car (fun t => t.fwd.windows[15] = some ⟨59, 62, 3, .drop, true⟩) ∧
    Gives (.clearEntryWindow 0 [1]) tabled (fun t => t.fwd.windows[0] = none) ∧
    Gives (.loadEntryInterlock 0 [32, 1, 90, 2047, 2, 1]) tabled (fun t => t.train.tx = some (.response ⟨0, 2, .duplicate, []⟩)) ∧
    Gives (.loadEntryInterlock 0 [32, 6, 64, 1, 2, 1]) tabled (fun t => t.fwd.interlocks[31] = some ⟨.auxiliary, 64, 1, .noCollector, .noneHeating⟩) ∧
    Gives (.clearEntryInterlock 0 [1]) tabled (fun t => t.fwd.interlocks[0] = none) := by
  intro h
  have none_here : ∀ j : Fin 16, car.fwd.windows[j] = none := by decide
  have free : ∀ j : Fin 32, ∀ x ∈ tabled.fwd.interlocks[j], x.role ≠ .auxiliary := by decide
  refine ⟨of_exec (((h tabled 0 16 [] (decides _ ?_) ?_).1 15 1 0 .pass 2 1 0 0 false ?_ ?_ ?_ rfl).1 ?_) ?_,
    of_exec (((h tabled 0 16 [] (decides _ ?_) ?_).1 15 58 62 .drop 59 63 0 2 true ?_ ?_ ?_ rfl).2.1 ?_
      ⟨4, ⟨49, 58, 1, .pass, true⟩, 58, ?_, ?_, ?_, ?_, ?_, ?_, ?_⟩) ?_,
    of_exec (((h car 0 16 [] (decides _ ?_) ?_).1 15 59 62 .drop 60 63 9 2 true ?_ ?_ ?_ rfl).2.2.1 ?_
      (fun ⟨j, x, _, _, hx, _⟩ => by simp [none_here] at hx) (fun ⟨j, x, _, hx, _⟩ => by simp [none_here] at hx)) ?_,
    of_exec (((h tabled 0 1 [] (decides _ ?_) ?_).1 0 0 0 .pass 1 1 0 0 false ?_ ?_ ?_ rfl).2.2.2) ?_,
    of_exec (((h tabled 0 32 [] (decides _ ?_) ?_).2 31 ⟨.pantographUnit, 90, 2047, .noCollector, .noneHeating⟩ 1 90 2047 2 1
      ?_ rfl ?_ ?_ ?_ ?_ rfl rfl).1 ⟨0, _, ?_, rfl, rfl, rfl⟩) ?_,
    of_exec (((h tabled 0 32 [] (decides _ ?_) ?_).2 31 ⟨.auxiliary, 64, 1, .noCollector, .noneHeating⟩ 6 64 1 2 1
      ?_ rfl ?_ ?_ ?_ ?_ rfl rfl).2.1 (fun ⟨j, x, _, hx, hr, _⟩ => free j x hx hr)) ?_,
    of_exec (((h tabled 0 1 [] (decides _ ?_) ?_).2 0 ⟨.auxiliary, 64, 1, .noCollector, .noneHeating⟩ 6 64 1 2 1
      ?_ rfl ?_ ?_ ?_ ?_ rfl rfl).2.2) ?_⟩ <;> decide +kernel

/-- The car with position 4 reported UP, and with position 4 unassigned. -/
def reported : State := { car with positions := upd car.positions 3 fun r => { r with lastPos := some .up } }
def bare : State := { car with positions := car.positions.set 3 {} }

theorem witness_PositionLoadAndClear : Obligations.PositionLoadAndClear →
    Gives (.loadEntryPosition 0 [4, 50, 1, 10]) car (fun t => t.train.tx = some (.response ⟨0, 2, .badEntry, []⟩)) ∧
    Gives (.loadEntryPosition 0 [4, 21, 1, 10]) car (fun t => t.train.tx = some (.response ⟨0, 2, .duplicate, []⟩)) ∧
    Gives (.loadEntryPosition 0 [4, 24, 4, 0]) reported
      (fun t => t.positions[3] = { assigned := some ⟨23, 3, none⟩, lastPos := some .up }) ∧
    Gives (.loadEntryPosition 0 [4, 24, 4, 10]) bare
      (fun t => t.positions[3] = { assigned := some ⟨23, 3, some 9⟩, lastPos := none }) ∧
    Gives (.clearEntryPosition 0 [4]) car (fun t => t.positions[3].assigned = none) := by
  intro h
  have quiet : ∀ n : Node, car.nodes[n].declRole = none := by decide
  have alone : ∀ o : Pos, o ≠ 3 → (∀ x ∈ reported.positions[o].assigned, x.node ≠ 23) ∧ ∀ x ∈ bare.positions[o].assigned, x.node ≠ 23 := by
    decide
  refine ⟨of_exec (((h car 0 3 4 [] (decides _ ?_) ?_ ?_ fun a _ => quiet a.node).1 ⟨49, 0, some 9⟩ 50 1 10 ?_ ?_ ?_).1 ?_) ?_,
    of_exec (((h car 0 3 4 [] (decides _ ?_) ?_ ?_ fun a _ => quiet a.node).1 ⟨20, 0, some 9⟩ 21 1 10 ?_ ?_ ?_).2.1 ?_
      ⟨0, _, ?_, rfl, rfl⟩) ?_,
    of_exec ((((h reported 0 3 4 [] (decides _ ?_) ?_ ?_
      fun a _ => quiet a.node).1 ⟨23, 3, none⟩ 24 4 0 ?_ ?_ ?_).2.2 ?_
      (fun ⟨o, x, ho, hx, hn⟩ => (alone o ho).1 x hx hn) ?_).1 ⟨_, rfl, rfl⟩) ?_,
    of_exec ((((h bare 0 3 4 [] (decides _ ?_) ?_ ?_
      fun a _ => quiet a.node).1 ⟨23, 3, some 9⟩ 24 4 10 ?_ ?_ ?_).2.2 ?_
      (fun ⟨o, x, ho, hx, hn⟩ => (alone o ho).2 x hx hn) ?_).2 (fun ⟨x, hx, _⟩ => absurd hx.symm ?_)) ?_,
    of_exec ((h car 0 3 4 [] (decides _ ?_) ?_ ?_ fun a _ => quiet a.node).2) ?_⟩ <;>
  first | decide +kernel | (exact fun e => by cases e)

/-- The car at rest with zone 1 PAUSED and zone 2 WAITING, 200 s heated. -/
def resting : State := { car with zones := upd (upd car.zones 0 fun r => { r with state := .paused }) 1 fun r => { r with state := .waiting, accum := 200000 } }

theorem witness_ZoneLoadAndClear : Obligations.ZoneLoadAndClear →
    Gives (.loadEntryZone 0 [1, 31, 20, 180, 900, 0]) resting (fun t => t.train.tx = some (.response ⟨0, 2, .busy, []⟩)) ∧
    Gives (.loadEntryZone 0 [2, 50, 20, 180, 900, 0]) resting (fun t => t.train.tx = some (.response ⟨0, 2, .badEntry, []⟩)) ∧
    Gives (.loadEntryZone 0 [2, 31, 20, 180, 900, 0]) resting (fun t => t.train.tx = some (.response ⟨0, 2, .duplicate, []⟩)) ∧
    Gives (.loadEntryZone 0 [2, 32, 0, 0, 0, 0]) resting (fun t => (t.zones[1].accum, t.zones[1].rated, t.zones[1].passTimer) = (10000, 1, some 60000)) ∧
    Gives (.loadEntryZone 0 [3, 33, 99, 999, 9999, 1]) resting (fun t => (t.zones[2].rated, t.zones[2].duration, t.zones[2].passTimer) = (60, 600, none)) ∧
    Gives (.clearEntryZone 0 [1]) resting (fun t => t.train.tx = some (.response ⟨0, 4, .busy, []⟩)) ∧
    Gives (.clearEntryZone 0 [2]) resting (fun t => t.zones[1].node = none ∧ t.zones[1].accum = 0) := by
  intro h
  refine ⟨of_exec (((h resting 0 0 1 [] (decides _ ?_) ?_).1 30 31 20 180 900 false ?_).1 ?_) ?_,
    of_exec (((h resting 0 1 2 [] (decides _ ?_) ?_).1 49 50 20 180 900 false ?_).2.1 ?_ ?_) ?_,
    of_exec (((h resting 0 1 2 [] (decides _ ?_) ?_).1 30 31 20 180 900 false ?_).2.2.1 ?_ ?_ ?_) ?_,
    of_exec (((h resting 0 1 2 [] (decides _ ?_) ?_).1 31 32 0 0 0 false ?_).2.2.2 ?_ ?_ ?_ ?_) ?_,
    of_exec (((h resting 0 2 3 [] (decides _ ?_) ?_).1 32 33 99 999 9999 true ?_).2.2.2 ?_ ?_ ?_ ?_) ?_,
    of_exec ((h resting 0 0 1 [] (decides _ ?_) ?_).2.1 ?_) ?_,
    of_exec ((h resting 0 1 2 [] (decides _ ?_) ?_).2.2 ?_ ?_) ?_⟩ <;> decide +kernel

/-- The car with nodes 51 and 52 configured and ABSENT, and sixteen class B entries or none. -/
def stocked (full : Bool) : State := busy { car with
  nodes := upd (upd car.nodes 50 fun r => { r with role := .auxiliary }) 51 fun r => { r with role := .auxiliary, period := 9 }
  roof := { car.roof with classB := if full then sixteen false else [] } }

theorem witness_NodeLoadAndClear : Obligations.NodeLoadAndClear →
    Gives (.loadEntryNode 0 [21, 6, 100]) (stocked false) (fun t => t.train.responses = [⟨0, 2, .refusedState, []⟩]) ∧
    Gives (.loadEntryNode 0 [51, 5, 100]) (stocked false) (fun t => t.train.responses = [⟨0, 2, .duplicate, []⟩]) ∧
    Gives (.loadEntryNode 0 [51, 1, 9999]) (stocked false) (fun t => t.nodes[50].period = 5000 ∧ t.roof.classB = [⟨50, .announceRequest, 0⟩]) ∧
    Gives (.loadEntryNode 0 [51, 1, 0]) (stocked true) (fun t => t.nodes[50].period = 0 ∧ t.roof.classB = sixteen false) ∧
    Gives (.loadEntryNode 0 [50, 6, 9]) (stocked false) (fun t => t.nodes[49].period = 9 ∧ t.nodes[49].presence = .present) ∧
    Gives (.clearEntryNode 0 [52]) (stocked false) (fun t => t.nodes[51].role = .noRole) ∧
    Gives (.clearEntryNode 0 [21]) (stocked false) (fun t => t.train.responses = [⟨0, 4, .refusedState, []⟩]) := by
  intro h
  refine ⟨of_exec (((h (stocked false) 0 20 21 [] (decides _ ?_) ?_ ?_).1 .auxiliary 6 100 rfl).1 ?_ ?_) ?_,
    of_exec (((h (stocked false) 0 50 51 [] (decides _ ?_) ?_ ?_).1 .lineSensor 5 100 rfl).2.1 ?_ ?_) ?_,
    of_exec ((((h (stocked false) 0 50 51 [] (decides _ ?_) ?_ ?_).1 .pantographUnit 1 9999 rfl).2.2.1 ?_ ?_ ?_ ?_).1 ?_) ?_,
    of_exec ((((h (stocked true) 0 50 51 [] (decides _ ?_) ?_ ?_).1 .pantographUnit 1 0 rfl).2.2.1 ?_ ?_ ?_ ?_).2 ?_) ?_,
    of_exec (((h (stocked false) 0 49 50 [] (decides _ ?_) ?_ ?_).1 .auxiliary 6 9 rfl).2.2.2 ?_ ?_ ?_) ?_,
    of_exec ((h (stocked false) 0 51 52 [] (decides _ ?_) ?_ ?_).2.1 ?_) ?_,
    of_exec ((h (stocked false) 0 20 21 [] (decides _ ?_) ?_ ?_).2.2 ?_ ?_) ?_⟩ <;> decide +kernel

/-- The car POWERED with L1's counter at 20, both transmitters busy. -/
def counting : State := busy (withL1 .up .powered true)

theorem witness_ConfigLoadAndClear : Obligations.ConfigLoadAndClear →
    (∃ v, exec (.loadEntryConfig 0 [8, 0, 0, 256]) counting = .next (follows counting v) ∧ v.channels[0].limit = 4080) ∧
    (∃ v, exec (.loadEntryConfig 0 [9, 4, 0, 0]) counting = .next (follows counting v) ∧ ConfigItem.rank.get v (some 3) = 0) ∧
    (∃ v, exec (.loadEntryConfig 0 [16, 65535, 0, 1]) counting = .next (follows counting v) ∧ ConfigItem.autoReclose.get v (some 0) = 1) ∧
    (∃ v, exec (.loadEntryConfig 0 [24, 0, 0, 0]) counting = .next (follows counting v) ∧ ConfigItem.silenceTime.get v (some 0) = 500) ∧
    Gives (.loadEntryConfig 0 [16, 0, 0, 2]) counting (fun t => t.train.responses = [⟨0, 2, .badEntry, []⟩]) ∧
    ∃ v, exec (.clearEntryConfig 0 [1, 0]) counting = .next (follows counting v) ∧ ConfigItem.hysteresis.get v (some 0) = 500 := by
  intro h
  have ok := decides counting (by decide +kernel)
  have limit : (if ConfigItem.contactLoss = .contactLoss ∧ raised counting 0 = true then
    if counting.channels[0].duty = .scrape then min 4080 (32 * 255) else 16 * 255 else counting.channels[0].limit) = 4080 := by
    decide +kernel
  obtain ⟨a, ha, ta, _⟩ := ((h counting 0 .contactLoss 0 8 0 0 256 [] ok (by decide) (by decide)).1 255 (.inl ⟨1, 255, by decide⟩))
  obtain ⟨b, hb, tb, _⟩ := ((h counting 0 .rank 3 9 4 0 0 [] ok (by decide) (by decide)).1 0 (.inl ⟨0, 7, by decide⟩))
  obtain ⟨c, hc, tc, _⟩ := ((h counting 0 .autoReclose 0 16 65535 0 1 [] ok (by decide) (by decide)).1 1 (.inr (by decide)))
  obtain ⟨d, hd, td, _⟩ := ((h counting 0 .silenceTime 0 24 0 0 0 [] ok (by decide) (by decide)).1 500 (.inl ⟨500, 10000, by decide⟩))
  obtain ⟨e, he, te, _⟩ := ((h counting 0 .hysteresis 0 1 0 0 0 [] ok (by decide) (by decide)).2.2)
  refine ⟨⟨a, ha, (congrArg Channel.limit (ta.2.2.1 0)).trans limit⟩, ⟨b, hb, tb.1⟩, ⟨c, hc, tc.1⟩, ⟨d, hd, td.1⟩,
    of_exec ((h counting 0 .autoReclose 0 16 0 0 2 [] ok ?_ ?_).2.1 ?_ ?_) ?_, e, he, te.1⟩ <;> decide +kernel

/-- The car IDLE or in COASTING with system 1 ordered, both transmitters busy. -/
def ready (co : CoState) : State := busy { car with co := { car.co with state := co, ordered := some 0 } }
def onlyRisk (co : CoState) : State := { ready co with zones := upd (upd (ready co).zones 0 fun r => { r with iceRisk := true }) 6 fun r => { r with iceRisk := true } }
def noneDown : State := { ready .idle with channels := (ready .idle).channels.map fun _ => { state := .cooldown } }
def grantedCar : State := { ready .idle with takeover := { state := .granted, request := true, access := true, held := false } }

/-- A channel can be raised for a system; its strip zone is ICE-RISK. -/
def canRaise (s : State) (k : SysId) (d : Chan) : Bool :=
  match s.positions[s.roleMap[d]].assigned, sysEntry? s k with
  | some a, some e => decide (s.channels[d].state = .down ∧ s.nodes[a.node].presence = .present ∧ e.mask.getLsbD a.cls.val = true)
  | _, _ => false

def atRisk (s : State) (d : Chan) : Bool := s.positions[s.roleMap[d]].assigned.any fun a => a.strip.any fun z => s.zones[z].iceRisk

theorem canRaise_iff (s : State) (k : SysId) (d : Chan) : (s.channels[d].state = .down ∧ ∃ a e, s.positions[s.roleMap[d]].assigned = some a ∧
    s.nodes[a.node].presence = .present ∧ sysEntry? s k = some e ∧ e.mask.getLsbD a.cls.val = true) ↔ canRaise s k d = true := by
  unfold canRaise
  split <;> simp_all

theorem atRisk_iff (s : State) (d : Chan) : (∃ a z, s.positions[s.roleMap[d]].assigned = some a ∧ a.strip = some z ∧
    s.zones[z].iceRisk = true) ↔ atRisk s d = true := by
  simp [atRisk, Option.any_eq_true]

theorem witness_PathStartsWithASelectedCollector : Obligations.PathStartsWithASelectedCollector →
    Gives (.powerUp 0 [1]) noneDown (fun t => t.train.responses = [⟨0, 16, .noCollector, []⟩]) ∧
    Gives (.powerUp 0 [1]) (ready .coasting) (fun t => t.co.collector = some 0 ∧ t.channels[0].phase = some (.raiseWindow, 6000)) ∧
    Gives (.changeover 0 [1]) (onlyRisk .idle) (fun t => t.channels[0].phase = some (.raiseWindow, 12000)) ∧
    Gives (.sectionClear 0 []) (ready .coasting) (fun t => t.co.state = .raising) ∧
    Gives (.powerUp 0 [1]) grantedCar (fun t => t.takeover.held = true) := by
  intro h
  simp only [Obligations.PathStartsWithASelectedCollector, canRaise_iff, atRisk_iff] at h
  refine ⟨of_exec ((h noneDown 0 0 1 [] (.powerUp 0 [1]) 16 (decides _ ?_) ?_ ?_).1 ?_) ?_,
    of_exec (((h (ready .coasting) 0 0 1 [] (.powerUp 0 [1]) 16 (decides _ ?_) ?_ ?_).2 0 ⟨20, 0, some 0⟩ [⟨20, .raise 0, 0⟩] ?_ ?_ ?_ ?_ ?_).1 ?_ 6000 ?_ ?_) ?_,
    of_exec (((h (onlyRisk .idle) 0 0 1 [] (.changeover 0 [1]) 18 (decides _ ?_) ?_ ?_).2 0 ⟨20, 0, some 0⟩ [⟨20, .raise 0, 0⟩] ?_ ?_ ?_ ?_ ?_).1 ?_ 12000 ?_ ?_) ?_,
    of_exec (((h (ready .coasting) 0 0 1 [] (.sectionClear 0 []) 20 (decides _ ?_) ?_ ?_).2 0 ⟨20, 0, some 0⟩ [⟨20, .raise 0, 0⟩] ?_ ?_ ?_ ?_ ?_).1 ?_ 6000 ?_ ?_) ?_,
    of_exec (((h grantedCar 0 0 1 [] (.powerUp 0 [1]) 16 (decides _ ?_) ?_ ?_).2 0 ⟨20, 0, some 0⟩ [⟨20, .raise 0, 0⟩] ?_ ?_ ?_ ?_ ?_).2 ?_ ?_) ?_⟩
  all_goals decide +kernel

/-- The car in LOCKOUT with L1 UP, LOWERING or DOWN, the OPEN repetition running, L2 LOCKED. -/
def lockedOut (c : ChanState) : State := { locked with
  channels := locked.channels.set 0 { state := c, duty := if c = .up then .scrape else .noDuty }, co := { locked.co with openRep := some 10 } }

/-- The car in NEUTRAL under system 1, the line DEAD. -/
def neutralDead : State := { inState .neutral .notPlaced with recog := { car.recog with result := .dead } }

theorem witness_PathOrdersThatQueueNoFrame : Obligations.PathOrdersThatQueueNoFrame →
    Gives (.powerUp 0 [1]) (lockedOut .down) (fun t => t.train.tx = some (.response ⟨0, 16, .lockedOut, []⟩)) ∧
    Gives (.powerUp 0 [8]) car (fun t => t.train.tx = some (.response ⟨0, 16, .badEntry, []⟩)) ∧
    Gives (.changeover 0 [0]) car (fun t => t.train.tx = some (.response ⟨0, 18, .badEntry, []⟩)) ∧
    Gives (.neutralAhead 0 []) (inState .lowering .notPlaced) (fun t => t.train.tx = some (.response ⟨0, 19, .busy, []⟩)) ∧
    Gives (.sectionClear 0 []) car (fun t => t.train.tx = some (.response ⟨0, 20, .refusedState, []⟩)) ∧
    Gives (.neutralAhead 0 []) car (fun t => t.co.neutralAnnounced = false) ∧
    Gives (.neutralAhead 0 []) neutralDead (fun t => t.co.neutralAnnounced = true) ∧
    Gives (.powerDown 0 []) (ready .idle) (fun t => t.co.ordered = none) ∧
    Gives (.powerDown 0 []) (inState .opening .notPlaced) (fun t => t.co.plan = .idle) ∧
    Gives (.powerDown 0 []) (ready .coasting) (fun t => t.co.state = .idle) ∧
    Gives (.powerUp 0 [2]) (inState .raising .notPlaced) (fun t => t.train.tx = some (.response ⟨0, 16, .busy, []⟩)) ∧
    Gives (.changeover 0 [1]) (inState .raising .notPlaced) (fun t => t.train.tx = some (.response ⟨0, 18, .ok, []⟩)) ∧
    Gives (.changeover 0 [2]) (ready .coasting) (fun t => t.co.ordered = some 1) ∧
    Gives (.powerUp 0 [1]) powered (fun t => t.co.state = .powered) ∧
    Gives (.changeover 0 [2]) neutralDead (fun t => t.co.ordered = some 1) ∧
    Gives (.powerUp 0 [1]) neutralDead (fun t => t.co.recloseGranted = true) ∧
    Gives (.clearLockout 0 []) powered (fun t => t.train.tx = some (.response ⟨0, 21, .refusedState, [5]⟩)) ∧
    Gives (.clearLockout 0 []) (lockedOut .up) (fun t => t.train.tx = some (.response ⟨0, 21, .busy, [10, 1]⟩)) ∧
    Gives (.clearLockout 0 []) (lockedOut .down) (fun t => t.co.state = .idle ∧ t.train.tx = some (.response ⟨0, 21, .ok, [4, 1, 0, 2, 4, 3]⟩)) := by
  intro h
  refine ⟨of_exec (((h (lockedOut .down) 0 1 [] (decides _ ?_)).1 ?_).1) ?_, of_exec (((h car 0 8 [] (decides _ ?_)).2.1 ?_ ?_).1) ?_,
    of_exec (((h car 0 0 [] (decides _ ?_)).2.1 ?_ ?_).2) ?_, of_exec ((h (inState .lowering .notPlaced) 0 0 [] (decides _ ?_)).2.2.1 ?_) ?_,
    of_exec ((h car 0 0 [] (decides _ ?_)).2.2.2.1 ?_ ?_) ?_, of_exec ((h car 0 0 [] (decides _ ?_)).2.2.2.2.1 ?_) ?_,
    of_exec ((h neutralDead 0 0 [] (decides _ ?_)).2.2.2.2.2.1 ?_) ?_, of_exec ((h (ready .idle) 0 0 [] (decides _ ?_)).2.2.2.2.2.2.1 ?_) ?_,
    of_exec ((h (inState .opening .notPlaced) 0 0 [] (decides _ ?_)).2.2.2.2.2.2.2.1 ?_) ?_,
    of_exec ((h (ready .coasting) 0 0 [] (decides _ ?_)).2.2.2.2.2.2.2.2.1 ?_ ?_ ?_) ?_,
    of_exec ((((h (inState .raising .notPlaced) 0 2 [] (decides _ ?_)).2.2.2.2.2.2.2.2.2.1 1 ?_ ?_).1 ?_ .busy ?_).1) ?_,
    of_exec ((((h (inState .raising .notPlaced) 0 1 [] (decides _ ?_)).2.2.2.2.2.2.2.2.2.1 0 ?_ ?_).1 ?_ .ok ?_).2) ?_,
    of_exec (((h (ready .coasting) 0 2 [] (decides _ ?_)).2.2.2.2.2.2.2.2.2.1 1 ?_ ?_).2.1 ?_) ?_,
    of_exec ((((h powered 0 1 [] (decides _ ?_)).2.2.2.2.2.2.2.2.2.1 0 ?_ ?_).2.2.1 ?_ ?_).1) ?_,
    of_exec ((((h neutralDead 0 2 [] (decides _ ?_)).2.2.2.2.2.2.2.2.2.1 1 ?_ ?_).2.2.2 ?_ ?_).1) ?_,
    of_exec ((((h neutralDead 0 1 [] (decides _ ?_)).2.2.2.2.2.2.2.2.2.1 0 ?_ ?_).2.2.2 ?_ ?_).2) ?_,
    of_exec ((h powered 0 0 [] (decides _ ?_)).2.2.2.2.2.2.2.2.2.2.1 ?_) ?_,
    of_exec ((h (lockedOut .up) 0 0 [] (decides _ ?_)).2.2.2.2.2.2.2.2.2.2.2.1 ?_ ?_) ?_,
    of_exec ((h (lockedOut .down) 0 0 [] (decides _ ?_)).2.2.2.2.2.2.2.2.2.2.2.2 ?_ ?_ ?_) ?_⟩ <;> decide +kernel

/-- The car POWERED with both transmitters busy, without and with zones HEATING. -/
def working (heat : Bool) : State := busy { powered with zones := if heat then upd powered.zones 3 (heating 1) else powered.zones }

theorem witness_OrdersOpenTheBreakerInPowered : Obligations.OrdersOpenTheBreakerInPowered →
    (∃ v, exec (.powerDown 0 []) (working true) = .next (follows (working true) v) ∧ v.zones[3].state = .paused) ∧
    (∃ v, exec (.neutralAhead 0 []) (working false) = .next (follows (working false) v) ∧ v.co.plan = .neutral) ∧
    (∃ v, exec (.powerUp 0 [2]) (working false) = .next (follows (working false) v) ∧ v.co.ordered = some 1) ∧
    (∃ v, exec (.changeover 0 [8]) { working false with systems := twice.systems.set 6 (some ⟨7, 1, 0, 0, 0, 0, 0, 0, 1, 1, 1, 1⟩) } =
      .next (follows { working false with systems := twice.systems.set 6 (some ⟨7, 1, 0, 0, 0, 0, 0, 0, 1, 1, 1, 1⟩) } v) ∧ v.co.state = .opening) ∧
    ∃ v, exec .trainLinkSilenceExpiry (working true) = .next (follows (working true) v) ∧ v.roof.classA[9] = some .opn := by
  intro h
  obtain ⟨a, ha, ca, ra, za, _⟩ := (h (working true) 0 0 [] 0 9 (.powerDown 0 []) _ .idle _ (decides _ (by decide +kernel)) rfl (by decide +kernel) rfl
    (.inl ⟨rfl, rfl, rfl, rfl⟩))
  obtain ⟨b, hb, cb, rb, zb, _⟩ := (h (working false) 0 0 [] 0 9 (.neutralAhead 0 []) _ .neutral _ (decides _ (by decide +kernel)) rfl
    (by decide +kernel) rfl (.inr (.inl ⟨rfl, rfl, rfl, rfl⟩)))
  obtain ⟨c, hc, cc, rc, zc, _⟩ := (h (working false) 0 2 [] 1 9 (.powerUp 0 [2]) _ .neutral _ (decides _ (by decide +kernel)) rfl
    (by decide +kernel) rfl (.inr (.inr (.inl ⟨.inl ⟨rfl, rfl⟩, rfl, by decide, by decide, rfl, rfl⟩))))
  obtain ⟨d, hd, cd, rd, zd, _⟩ := (h { working false with systems := twice.systems.set 6 (some ⟨7, 1, 0, 0, 0, 0, 0, 0, 1, 1, 1, 1⟩) } 0 8 [] 7 9
    (.changeover 0 [8]) _ .neutral _ (decides _ (by decide +kernel)) rfl
    (by decide +kernel) rfl (.inr (.inr (.inl ⟨.inr ⟨rfl, rfl⟩, rfl, by decide, by decide, rfl, rfl⟩))))
  obtain ⟨e, he, ce, re, ze, _⟩ := (h (working true) 0 0 [] 0 9 .trainLinkSilenceExpiry _ .idle _ (decides _ (by decide +kernel)) rfl
    (by decide +kernel) rfl (.inr (.inr (.inr ⟨rfl, by decide, rfl, rfl, rfl⟩))))
  exact ⟨⟨a, ha, (congrArg ZoneRec.state (za 3)).trans (by decide +kernel)⟩, ⟨b, hb, by rw [cb]⟩, ⟨c, hc, by rw [cc]⟩, ⟨d, hd, by rw [cd]⟩,
    e, he, by rw [re]; decide +kernel⟩

/-- The car with L1 in a state and the last position reported, inside or outside a grant. -/
def resetCar (c : ChanState) (p : PanPos) (grant : Bool) : State := busy { car with
  channels := car.channels.set 0 { up .scrape with state := c, duty := if c = .up ∨ c = .raising then .scrape else .noDuty, counter := 3, lastFault := .contactLoss }
  positions := upd car.positions 0 fun r => { r with lastPos := some p }
  takeover := { car.takeover with state := if grant then .granted else .noTakeover } }

/-- The car POWERED with a scrape run on L4, which has rank 7. -/
def scraping : State := busy { powered with
  channels := (powered.channels.set 0 { up .collect with rank := 1 }).set 3 (up .scrape), iceSeason := true, now := 70000
  scrape := { State.reset.scrape with run := .scraping, chan := some 3, timer := some 5, since := some 10000 } }

/-- The car with L1 raised as the collector of a path to system 1, the controller in a state, the substitute used or not. -/
def bringingUp (st : CoState) (c : ChanState) (used : Bool) : State := busy { car with
  channels := car.channels.set 0 { up .collect with state := c, phase := if c = .raising then some (.raiseWindow, 0) else none }
  co := { car.co with
    state := st, active := some 0, ordered := some 0, collector := some 0, substituteUsed := used
    phase := some (.switchWindow, 0) } }

/-- The same with no other channel that could be raised. -/
def noneLeft : State := let s := bringingUp .recognizing .up false
  { s with channels := s.channels.set 3 { state := .locked } }

theorem collects (s : State) (c : Chan) (k : SysId) (h : (s.channels[c].state = .raising ∨ s.channels[c].state = .up) ∧
    s.co.collector = some c ∧ (s.co.state = .raising ∨ s.co.state = .recognizing ∨ s.co.state = .switching) ∧ s.co.active = some k ∧
    s.scrape.chan ≠ some c) : Collects s c k := ⟨h.1, h.2.1, h.2.2.1, h.2.2.2.1, h.2.2.2.2⟩

theorem noSubstitute (s : State) (c : Chan) (k : SysId) (h : (s.co.substituteUsed = true ∨ ∀ d, ¬ canRaise s k d = true) ∧
    (∀ d, d ≠ c → raised s d = false) ∧ s.scrape.run = .noRun) : NoSubstitute s c k := by
  simp only [← canRaise_iff] at h
  exact ⟨h.1, h.2.1, h.2.2⟩

/-- A substitute without ICE-RISK. -/
theorem substitute (s : State) (c : Chan) (k : SysId) (d : Chan) (b : PosAssign) (h : granted s = false ∧ s.co.substituteUsed = false ∧
    canRaise s k d = true ∧ ¬ atRisk s d = true ∧ (∀ x, x < d → canRaise s k x = true → atRisk s x = true) ∧
    s.positions[s.roleMap[d]].assigned = some b ∧ ∀ x, x ≠ c → ¬ (raised s x = true ∧ s.channels[x].duty = .collect)) :
    Substitute s c k d b s.settings.raiseWindow := by
  simp only [← canRaise_iff, ← atRisk_iff] at h
  exact ⟨h.1, h.2.1, ⟨h.2.2.1, .inl ⟨h.2.2.2.1, h.2.2.2.2.1⟩⟩, h.2.2.2.2.2.1, h.2.2.2.2.2.2, fun r => absurd r h.2.2.2.1, fun _ => rfl⟩

theorem witness_ChannelOrdersByState : Obligations.ChannelOrdersByState →
    Gives (.channelLower 0 [1]) powered (fun t => t.train.tx = some (.response ⟨0, 24, .refusedState, []⟩)) ∧
    Gives (.channelLower 0 [1]) (resetCar .cooldown .up false) (fun t => t.train.responses = [⟨0, 24, .refusedState, []⟩]) ∧
    Gives (.channelReset 0 [1]) { resetCar .locked .up false with positions := car.positions.set 0 {} } (fun t => t.channels[0].state = .down) ∧
    Gives (.channelReset 0 [1]) (resetCar .lowering .up false) (fun t => t.channels[0].cause = some .reset ∧ t.channels[0].counter = 0) ∧
    Gives (.channelReset 0 [1]) (resetCar .down .up false) (fun t => t.channels[0].lastFault = .noFault) ∧
    Gives (.channelReset 0 [1]) (resetCar .locked .down true) (fun t => t.channels[0].state = .down) ∧
    Gives (.channelReset 0 [1]) (resetCar .locked .up true) (fun t => t.takeover.held = true) ∧
    Gives (.channelReset 0 [1]) (resetCar .locked .up false) (fun t => t.channels[0].state = .lowering) ∧
    Gives (.channelLower 0 [1]) (resetCar .up .up true) (fun t => t.takeover.held = true) ∧
    Gives (.channelLower 0 [1]) (resetCar .raising .up false) (fun t => t.channels[0].cause = some .order) ∧
    Gives (.channelReset 0 [4]) scraping (fun t => t.channels[3].cause = some .reset ∧ t.scrape.run = .noRun) ∧
    Gives (.channelReset 0 [1]) (bringingUp .switching .up true) (fun t => t.co.state = .idle) ∧
    Gives (.channelLower 0 [1]) noneLeft (fun t => t.co.state = .idle ∧ t.channels[0].cause = some .order) ∧
    Gives (.channelLower 0 [1]) (bringingUp .raising .raising false) (fun t => t.co.collector = some 3 ∧ t.channels[3].state = .raising) ∧
    Gives (.loweringOrder 0 [2]) scraping (fun t => t.channels[3].cause = some .graded ∧ t.scrape.run = .noRun) ∧
    Gives (.loweringOrder 0 [8]) car (fun t => t.train.tx = some (.response ⟨0, 22, .badEntry, []⟩)) ∧
    Gives (.loweringOrder 0 [7]) car (fun t => t.train.tx = some (.response ⟨0, 22, .ok, [0]⟩)) ∧
    Gives (.loweringOrder 0 [1]) powered (fun t => t.co.state = .opening ∧ t.co.plan = .coasting) := by
  intro h
  refine ⟨of_exec (((h powered 0 0 1 [] (decides _ ?_) ?_).1 ?_).1) ?_,
    of_exec ((h (resetCar .cooldown .up false) 0 0 1 [] (decides _ ?_) ?_).2.1 ?_ ?_) ?_,
    of_exec ((h { resetCar .locked .up false with positions := car.positions.set 0 {} } 0 0 1 [] (decides _ ?_) ?_).2.2.1 ?_ ?_ ?_ ?_) ?_,
    of_exec (((((h (resetCar .lowering .up false) 0 0 1 [] (decides _ ?_) ?_).2.2.2.1 ⟨20, 0, some 0⟩ ?_).1 ?_).1 ?_).2) ?_,
    of_exec ((((h (resetCar .down .up false) 0 0 1 [] (decides _ ?_) ?_).2.2.2.1 ⟨20, 0, some 0⟩ ?_).1 ?_).2.1 ?_) ?_,
    of_exec ((((h (resetCar .locked .down true) 0 0 1 [] (decides _ ?_) ?_).2.2.2.1 ⟨20, 0, some 0⟩ ?_).1 ?_).2.2.1 ?_ ?_) ?_,
    of_exec (((((h (resetCar .locked .up true) 0 0 1 [] (decides _ ?_) ?_).2.2.2.1 ⟨20, 0, some 0⟩ ?_).1 ?_).2.2.2.1 ?_ ?_).1 ?_) ?_,
    of_exec (((((h (resetCar .locked .up false) 0 0 1 [] (decides _ ?_) ?_).2.2.2.1 ⟨20, 0, some 0⟩ ?_).1 ?_).2.2.2.1 ?_ ?_).2 ?_) ?_,
    of_exec (((((h (resetCar .up .up true) 0 0 1 [] (decides _ ?_) ?_).2.2.2.1 ⟨20, 0, some 0⟩ ?_).1 ?_).2.2.2.2.1 ?_ ?_).1) ?_,
    of_exec (((((h (resetCar .raising .up false) 0 0 1 [] (decides _ ?_) ?_).2.2.2.1 ⟨20, 0, some 0⟩ ?_).1 ?_).2.2.2.2.2 ?_ ?_ _ _ _
      (.inl ⟨rfl, rfl, rfl⟩)).1 ?_ ?_) ?_,
    of_exec (((((h scraping 0 3 4 [] (decides _ ?_) ?_).2.2.2.1 ⟨23, 0, some 6⟩ ?_).1 ?_).2.2.2.2.2 ?_ ?_ _ _ _
      (.inr ⟨rfl, rfl, rfl⟩)).2.1 ?_ ?_ ?_) ?_,
    of_exec ((((((h (bringingUp .switching .up true) 0 0 1 [] (decides _ ?_) ?_).2.2.2.1 ⟨20, 0, some 0⟩ ?_).1 ?_).2.2.2.2.2 ?_ ?_ _ _ _
      (.inr ⟨rfl, rfl, rfl⟩)).2.2 0 (collects _ _ _ ?_)).1 (noSubstitute _ _ _ ?_)) ?_,
    of_exec ((((((h noneLeft 0 0 1 [] (decides _ ?_) ?_).2.2.2.1 ⟨20, 0, some 0⟩ ?_).1 ?_).2.2.2.2.2 ?_ ?_ _ _ _
      (.inl ⟨rfl, rfl, rfl⟩)).2.2 0 (collects _ _ _ ?_)).1 (noSubstitute _ _ _ ?_)) ?_,
    of_exec ((((((h (bringingUp .raising .raising false) 0 0 1 [] (decides _ ?_) ?_).2.2.2.1 ⟨20, 0, some 0⟩ ?_).1 ?_).2.2.2.2.2 ?_ ?_ _ _ _
      (.inl ⟨rfl, rfl, rfl⟩)).2.2 0 (collects _ _ _ ?_)).2 3 ⟨23, 0, some 6⟩ _ [⟨23, .raise 3, 0⟩] (substitute _ _ _ _ _ ?_) ?_) ?_,
    of_exec (((h scraping 0 3 4 [] (decides _ ?_) ?_).2.2.2.1 ⟨23, 0, some 6⟩ ?_).2 2 ?_ ?_ ?_ ?_ ?_) ?_,
    of_exec ((h car 0 0 1 [] (decides _ ?_) ?_).2.2.2.2.1 8 ?_) ?_,
    of_exec ((h car 0 0 1 [] (decides _ ?_) ?_).2.2.2.2.2.1 7 ?_ ?_ ?_) ?_,
    of_exec ((h powered 0 0 1 [] (decides _ ?_) ?_).2.2.2.2.2.2 1 9 ?_ ?_ ?_ ?_ ?_) ?_⟩ <;> decide +kernel

/-- The car with two season-only zones, one unassigned. -/
def seasonal (on : Bool) : State := { car with
  iceSeason := on, zones := upd (upd car.zones 8 fun r => { r with seasonOnly := true, passTimer := none }) 9 fun r => { r with seasonOnly := true, node := none } }

theorem witness_OrdersThatSetTheirOwnRecord : Obligations.OrdersThatSetTheirOwnRecord →
    Gives (.remap 0 [1, 2, 3, 4]) powered (fun t => t.train.tx = some (.response ⟨0, 25, .refusedState, []⟩)) ∧
    Gives (.remap 0 [1, 2, 3, 1]) car (fun t => t.train.tx = some (.response ⟨0, 25, .badEntry, []⟩)) ∧
    Gives (.remap 0 [4, 3, 2, 1]) car (fun t => t.roleMap = #v[3, 2, 1, 0]) ∧
    Gives (.iceSeason 0 [1]) (seasonal true) (fun t => t.zones[8].passTimer = none) ∧
    Gives (.iceSeason 0 [1]) (seasonal false) (fun t => t.zones[8].passTimer = some 60000 ∧ t.zones[9].passTimer = none) ∧
    Gives (.depotAccess 0 [1]) car (fun t => t.takeover.access = true) ∧
    Gives (.noticeFilter 0 [1, 1]) car (fun t => t.train.filter[0] = true) ∧
    Gives (.noticeFilter 0 [19, 0]) car (fun t => t.train.filter[18] = false) ∧
    Gives (.noticeFilter 0 [19, 1]) car (fun t => t.train.tx = some (.response ⟨0, 29, .badEntry, []⟩)) ∧
    Gives (.partReset 0 []) (resetCar .cooldown .up true) (fun t => t.takeover.held = true) ∧
    Gives (.partReset 0 []) (resetCar .down .up true) (fun t => t.train.resetPending = true) := by
  intro h
  refine ⟨of_exec (((h powered 0 [] (decides _ ?_)).1 #v[0, 1, 2, 3] 1 2 3 4 ?_ ?_ ?_ ?_).1 ?_) ?_,
    of_exec (((h car 0 [] (decides _ ?_)).1 #v[0, 1, 2, 0] 1 2 3 1 ?_ ?_ ?_ ?_).2.1 ?_ ?_) ?_,
    of_exec (((h car 0 [] (decides _ ?_)).1 #v[3, 2, 1, 0] 4 3 2 1 ?_ ?_ ?_ ?_).2.2 ?_ ?_) ?_,
    of_exec (((h (seasonal true) 0 [] (decides _ ?_)).2.1 true ?_ ?_).1 ?_) ?_,
    of_exec (((h (seasonal false) 0 [] (decides _ ?_)).2.1 true ?_ ?_).2 ?_) ?_,
    of_exec ((h car 0 [] (decides _ ?_)).2.2.1 true) ?_,
    of_exec (((h car 0 [] (decides _ ?_)).2.2.2.1 0 1 true ?_).1 ?_) ?_,
    of_exec (((h car 0 [] (decides _ ?_)).2.2.2.1 18 19 false ?_).1 ?_) ?_,
    of_exec (((h car 0 [] (decides _ ?_)).2.2.2.1 18 19 true ?_).2 ?_ ?_ ?_) ?_,
    of_exec ((h (resetCar .cooldown .up true) 0 [] (decides _ ?_)).2.2.2.2.1 ?_ ?_) ?_,
    of_exec ((h (resetCar .down .up true) 0 [] (decides _ ?_)).2.2.2.2.2 ?_) ?_⟩ <;> decide +kernel

/-- POWERED in the ice season, position 4 without a strip zone, L4 DOWN or UP in a run, the line figures kept. -/
def season (run : RunState) (c : ChanState) : State := busy { powered with
  iceSeason := true, positions := upd powered.positions 3 fun r => { r with assigned := some ⟨23, 0, none⟩ }
  channels := powered.channels.set 3 { up .scrape with state := c, duty := if c = .up then .scrape else .noDuty }
  scrape := if run = .noRun then {} else { State.reset.scrape with run := run, chan := some 3, timer := some 0, since := some 0 } }

theorem witness_ScrapeRunsStartAndEnd : Obligations.ScrapeRunsStartAndEnd →
    Gives (.scrape 0 []) (season .scraping .up) (fun t => t.scrape.run = .scraping) ∧
    Gives (.scrape 0 []) powered (fun t => t.train.tx = some (.response ⟨0, 27, .refusedState, []⟩)) ∧
    Gives (.scrape 0 []) (season .noRun .locked) (fun t => t.train.responses = [⟨0, 27, .noCollector, []⟩]) ∧
    Gives (.scrape 0 []) (season .noRun .down) (fun t => t.scrape.run = .raising ∧ t.channels[3].limit = 1280) ∧
    Gives .scrapeTimerExpiry car (fun t => t.scrape.run = .noRun) ∧
    Gives .scrapeTimerExpiry (season .scraping .up) (fun t => t.scrape.run = .noRun ∧ t.channels[3].cause = some .scrapeEnd) := by
  intro h
  have can (s : State) (d : Chan) : (s.channels[d].state = .down ∧ s.channels[d].duty ≠ .collect ∧ ∃ a e, s.positions[s.roleMap[d]].assigned = some a ∧
      s.nodes[a.node].presence = .present ∧ sysEntry? s 0 = some e ∧ e.mask.getLsbD a.cls.val = true) ↔
      (canRaise s 0 d = true ∧ s.channels[d].duty ≠ .collect) := by rw [← canRaise_iff]; tauto
  have h1 := (h (season .noRun .locked) rfl).1 0 [] 0 (decides _ (by decide +kernel))
  have h2 := (h (season .noRun .down) rfl).1 0 [] 0 (decides _ (by decide +kernel))
  simp only [can] at h1 h2
  refine ⟨of_exec (((h (season .scraping .up) ?_).1 0 [] 0 (decides _ ?_)).1 ?_) ?_, of_exec (((h powered ?_).1 0 [] 0 (decides _ ?_)).2.1 ?_ ?_) ?_,
    of_exec ((h1.2.2 ?_ ?_ ?_ ?_).1 ?_) ?_,
    of_exec ((h2.2.2 ?_ ?_ ?_ ?_).2 3 ⟨23, 0, none⟩ [⟨23, .raise 3, 0⟩] ?_ ?_ ?_ ?_ ?_ ?_ ?_) ?_,
    of_exec ((h car ?_).2.1 ?_) ?_, of_exec ((h (season .scraping .up) ?_).2.2 3 ⟨23, 0, none⟩ ?_ ?_ ?_ ?_ ?_ ?_) ?_⟩ <;> decide +kernel

/-- The tables of chapter 07 with the role of node 64's neighbour and the presences changed; both transmitters busy. -/
def commanded (n : Node) (p : Presence) (grant : Bool) (inC : Nat) : State := busy { running with
  nodes := upd running.nodes n fun r => { r with presence := p }
  roof := { running.roof with classC := List.replicate inC ⟨49, 80, [], 1⟩ }
  takeover := { running.takeover with state := if grant then .granted else .noTakeover } }

theorem witness_NodeCommandIsDecided : Obligations.NodeCommandIsDecided →
    Gives (.nodeCommand 49 0 70 []) car (fun t => t.train.tx = some (.response ⟨0, 70, .noRoute, [50, 70]⟩)) ∧
    Gives (.nodeCommand 43 0 70 []) (commanded 0 .present false 0) (fun t => t.fwd.discarded = 1) ∧
    Gives (.nodeCommand 49 0 63 []) (commanded 0 .present false 0) (fun t => t.train.responses = [⟨0, 63, .reservedCode, [50, 63]⟩]) ∧
    Gives (.nodeCommand 50 0 64 []) (commanded 0 .present false 0) (fun t => t.train.responses = [⟨0, 64, .noRoute, [51, 64]⟩]) ∧
    Gives (.nodeCommand 49 0 64 []) (commanded 49 .mismatch true 0) (fun t => t.train.responses = [⟨0, 64, .mismatch, [50, 64]⟩]) ∧
    Gives (.nodeCommand 49 0 64 []) (commanded 49 .silent true 0) (fun t => t.train.responses = [⟨0, 64, .silent, [50, 64]⟩]) ∧
    Gives (.nodeCommand 49 0 64 []) (commanded 49 .absent true 0) (fun t => t.train.responses = [⟨0, 64, .held, [50, 64]⟩]) ∧
    Gives (.nodeCommand 49 0 64 [1]) (commanded 49 .absent false 7) (fun t => t.roof.classC[7]? = some ⟨49, 64, [1], 0⟩ ∧ t.fwd.passed = 1) ∧
    Gives (.nodeCommand 49 0 64 [1]) (commanded 49 .absent false 8) (fun t => t.train.responses = [⟨0, 64, .full, [50, 64]⟩]) ∧
    Gives (.nodeCommand 21 0 91 []) (commanded 21 .present false 0) (fun t => t.train.responses = [⟨0, 91, .noRule, [22, 91, 5]⟩]) ∧
    Gives (.nodeCommand 21 0 90 []) (commanded 21 .present false 0) (fun t => t.train.responses = [⟨0, 90, .interlock, [22, 90, 5, 1]⟩]) := by
  intro h
  have open' : ∀ i : Fin 16, car.fwd.windows[i] = none := by decide
  have aux : ∀ i : Fin 16, ∀ w ∈ running.fwd.windows[i], w.level = 1 ∧ w.first ≤ 49 ∧ (49 : Node) ≤ w.last → w = ⟨49, 58, 1, .pass, true⟩ := by decide
  have aux' : ∀ i : Fin 16, ∀ w ∈ running.fwd.windows[i], w.level = 1 ∧ w.first ≤ 50 ∧ (50 : Node) ≤ w.last → w = ⟨49, 58, 1, .pass, true⟩ := by decide
  have drop : ∀ i : Fin 16, ∀ w ∈ running.fwd.windows[i], w.first ≤ 43 ∧ (43 : Node) ≤ w.last → w = ⟨0, 62, 3, .drop, false⟩ := by decide
  have pan : ∀ i : Fin 16, ∀ w ∈ running.fwd.windows[i], w.level ≤ 2 → w.first ≤ 21 ∧ (21 : Node) ≤ w.last → w = ⟨19, 28, 2, .chk, false⟩ := by decide
  have rule : ∀ i : Fin 32, ∀ e ∈ running.fwd.interlocks[i], ¬ (e.role = .pantographUnit ∧ e.code = 91) := by decide
  have only : ∀ i : Fin 32, ∀ e ∈ running.fwd.interlocks[i], e.role = .pantographUnit ∧ e.code = 90 → i = 0 := by decide
  have at49 (p : Presence) (g : Bool) (k : Nat) (c : Byte) (d : List Word) (ok : Decides (commanded 49 p g k)) :=
    (h (commanded 49 p g k) 49 0 c d ok).2 1 4 ⟨49, 58, 1, .pass, true⟩ (by decide) (by decide) ⟨rfl, by decide⟩
      (fun j x hx => aux j x hx.1 hx.2) (fun m j x _ _ => by omega)
  have at21 (c : Byte) (ok : Decides (commanded 21 .present false 0)) :=
    (h (commanded 21 .present false 0) 21 0 c [] ok).2 2 1 ⟨19, 28, 2, .chk, false⟩ (by decide) (by decide) ⟨rfl, by decide⟩
      (fun j x hx => pan j x hx.1 (by omega) hx.2.2)
      (fun m j x _ hm hx => by have := pan j x hx.1 (by omega) hx.2.2; subst this; exact absurd hx.2.1 (by simp; omega))
  refine ⟨of_exec ((h car 49 0 70 [] (decides _ ?_)).1 (fun l i w _ _ hw => by simp [open'] at hw)) ?_,
    of_exec (((h (commanded 0 .present false 0) 43 0 70 [] (decides _ ?_)).2 3 0 ⟨0, 62, 3, .drop, false⟩ (by decide) (by decide) ⟨rfl, by decide⟩
      (fun j x hx => drop j x hx.1 hx.2.2)
      (fun m j x _ _ hx => by have := drop j x hx.1 hx.2.2; subst this; exact absurd hx.2.1 (by simp; omega))).1 rfl) ?_,
    of_exec (((h (commanded 0 .present false 0) 49 0 63 [] (decides _ ?_)).2 1 4 ⟨49, 58, 1, .pass, true⟩ (by decide) (by decide) ⟨rfl, by decide⟩
      (fun j x hx => aux j x hx.1 hx.2) (fun m j x _ _ => by omega)).2 ?_ |>.1 ?_) ?_,
    of_exec (((h (commanded 0 .present false 0) 50 0 64 [] (decides _ ?_)).2 1 4 ⟨49, 58, 1, .pass, true⟩ (by decide) (by decide) ⟨rfl, by decide⟩
      (fun j x hx => aux' j x hx.1 hx.2) (fun m j x _ _ => by omega)).2 ?_ |>.2.1 ?_ ?_) ?_,
    of_exec (((at49 .mismatch true 0 64 [] (decides _ ?_)).2 ?_).2.2 ?_ ?_ |>.1 ?_) ?_,
    of_exec (((at49 .silent true 0 64 [] (decides _ ?_)).2 ?_).2.2 ?_ ?_ |>.2.1 ?_) ?_,
    of_exec ((((at49 .absent true 0 64 [] (decides _ ?_)).2 ?_).2.2 ?_ ?_ |>.2.2 ?_).1 ?_) ?_,
    of_exec ((((at49 .absent false 7 64 [1] (decides _ ?_)).2 ?_).2.2 ?_ ?_ |>.2.2 ?_).2 ?_ |>.1 rfl) ?_,
    of_exec ((((at49 .absent false 8 64 [1] (decides _ ?_)).2 ?_).2.2 ?_ ?_ |>.2.2 ?_).2 ?_ |>.1 rfl) ?_,
    of_exec ((((at21 91 (decides _ ?_)).2 ?_).2.2 ?_ ?_ |>.2.2 ?_).2 ?_ |>.2.1 rfl (fun j e he => rule j e he)) ?_,
    of_exec ((((at21 90 (decides _ ?_)).2 ?_).2.2 ?_ ?_ |>.2.2 ?_).2 ?_ |>.2.2 rfl 0 ⟨.pantographUnit, 90, 0b11000000001, .allDown, .any⟩ rfl ?_
      (fun i x hx hk => only i x hx hk) |>.2 ?_) ?_⟩ <;> decide +kernel

theorem witness_TakeoverPinAndGrant : Obligations.TakeoverPinAndGrant →
    Gives .takeoverRequestAsserted depot (fun t => t.takeover.state = .granted) ∧
    Gives .takeoverRequestAsserted lowerTo21 (fun t => t.takeover.state = .pending) ∧
    Gives .takeoverRequestAsserted car (fun t => t.takeover.state = .noTakeover) ∧
    Gives .takeoverRequestDeasserted { depot with takeover := { depot.takeover with request := true, state := .granted, held := true } }
      (fun t => t.takeover.held = false) ∧
    Gives .takeoverRequestDeasserted { lowerTo21 with takeover := { depot.takeover with request := true, state := .pending, held := true } }
      (fun t => t.takeover.held = true) := by
  intro h
  refine ⟨of_exec (((h depot ?_).1 ?_ ?_).1 ?_ ?_) ?_, of_exec (((h lowerTo21 ?_).1 ?_ ?_).2.1 ?_ ?_) ?_, of_exec (((h car ?_).1 ?_ ?_).2.2 ?_) ?_,
    of_exec ((h { depot with takeover := { depot.takeover with request := true, state := .granted, held := true } } ?_).2 ?_) ?_,
    of_exec ((h { lowerTo21 with takeover := { depot.takeover with request := true, state := .pending, held := true } } ?_).2 ?_) ?_⟩ <;>
  decide +kernel

/-- The car POWERED with a roof frame in transmission, the train transmitter busy; class A slots that a pick could take are empty. -/
def sending (x : RoofTx) : State := { busy powered with roof := { powered.roof with tx := some x } }

/-- A part reset at its completion: L1 UP, L2 COOLDOWN and bound, L3 LOCKED and unbound. -/
def resetDue : State := { busy powered with
  channels := ((powered.channels.set 0 { up .collect with counter := 9 }).set 1 { state := .cooldown }).set 2 { state := .locked, lastFault := .add }
  positions := powered.positions.set 2 {}
  train := { powered.train with tx := some (.response ⟨0, 30, .ok, []⟩), resetPending := true, checkFail := 3 } }

theorem witness_TransmissionsComplete : Obligations.TransmissionsComplete →
    Gives .roofTransmissionComplete car (fun t => t.roof.tx = none) ∧
    Gives .roofTransmissionComplete (sending ⟨.classA 9 .sustain, 0, true⟩) (fun t => t.nodes[9].seq = 0) ∧
    Gives .roofTransmissionComplete (sending ⟨.classA 9 .opn, 0, true⟩) (fun t => t.nodes[9].seq = 1 ∧ t.nodes[9].slot = none) ∧
    Gives .roofTransmissionComplete (sending ⟨.classB ⟨9, .close, 4⟩, 7, true⟩) (fun t => t.nodes[9].slot = some ⟨3, 7, .part .close 4, 50⟩) ∧
    Gives .roofTransmissionComplete (sending ⟨.classC ⟨49, 70, [], 5⟩, 7, true⟩) (fun t => t.nodes[49].slot = some ⟨70, 7, .train 5, 50⟩) ∧
    Gives .roofTransmissionComplete (sending ⟨.classC ⟨49, 70, [], 5⟩, 7, false⟩) (fun t => t.nodes[49].slot = none) ∧
    Gives .trainTransmissionComplete car (fun t => t.train.tx = none) ∧
    Gives .trainTransmissionComplete (sending ⟨.classA 9 .opn, 0, true⟩) (fun t => t.train.tx = none) ∧
    ∃ v, exec .trainTransmissionComplete resetDue = .next (follows resetDue v) ∧ v.co.state = .idle := by
  intro h
  obtain ⟨v, hv, ho, hr, hc, _⟩ := (((h resetDue rfl).2.2.2 (.response ⟨0, 30, .ok, []⟩) rfl).2 ⟨rfl, _, rfl, rfl, rfl⟩)
  refine ⟨of_exec ((h car ?_).1 ?_) ?_, of_exec (((h (sending ⟨.classA 9 .sustain, 0, true⟩) ?_).2.1 _ rfl ?_).1 9 .sustain ?_) ?_,
    of_exec (((h (sending ⟨.classA 9 .opn, 0, true⟩) ?_).2.1 _ rfl ?_).1 9 .opn ?_) ?_,
    of_exec (((h (sending ⟨.classB ⟨9, .close, 4⟩, 7, true⟩) ?_).2.1 _ rfl ?_).2.1 ⟨9, .close, 4⟩ ?_) ?_,
    of_exec (((h (sending ⟨.classC ⟨49, 70, [], 5⟩, 7, true⟩) ?_).2.1 _ rfl ?_).2.2 ⟨49, 70, [], 5⟩ ?_) ?_,
    of_exec (((h (sending ⟨.classC ⟨49, 70, [], 5⟩, 7, false⟩) ?_).2.1 _ rfl ?_).2.2 ⟨49, 70, [], 5⟩ ?_) ?_,
    of_exec ((h car ?_).2.2.1 ?_) ?_, of_exec (((h (sending ⟨.classA 9 .opn, 0, true⟩) ?_).2.2.2 _ rfl).1 (fun ⟨x, _⟩ => absurd x ?_)) ?_,
    v, hv, by rw [hc]⟩ <;> decide +kernel

/-- Every timer of R40, R132 and R133 running, L1 UP, L2 LOWERING, the trip count 1. -/
def ticking : State := busy { powered with
  channels := powered.channels.set 1 { state := .lowering, lowerRep := some 0, cause := some .order, phase := some (.lowerWindow, 9) }
  co := { poweredCo 0 1 with openRep := some 0, trips := 1, tripQuiet := some 0 } }

theorem witness_RepeatedFramesAndPlainTimers : Obligations.RepeatedFramesAndPlainTimers →
    Gives (.lowerRepetition 1) ticking (fun t => t.roof.classA[21] = some .lower ∧ t.channels[1].lowerRep = some 100) ∧
    Gives (.channelSustainTimerExpiry 0) ticking (fun t => t.roof.classA[20] = some .sustain) ∧
    Gives (.lowerRepetition 0) ticking (fun t => t.roof.classA[20] = none) ∧
    Gives (.channelSustainTimerExpiry 1) ticking (fun t => t.roof.classA[21] = none) ∧
    Gives .breakerSustainTimerExpiry ticking (fun t => t.roof.classA[9] = some .sustain) ∧
    Gives .openRepetition ticking (fun t => t.roof.classA[9] = some .opn ∧ t.co.openRep = some 100) ∧
    Gives .breakerSustainTimerExpiry car (fun t => t.roof.tx = none) ∧ Gives .openRepetition car (fun t => t.roof.tx = none) ∧
    Gives .tripQuietTimerExpiry ticking (fun t => t.co.trips = 0) ∧ Gives .tripQuietTimerExpiry car (fun t => t.co.trips = 0) ∧
    Gives .announceRetryTimerExpiry car (fun t => t.announceRetry = some 1000 ∧ t.roof.tx = none) ∧
    Gives .announceRetryTimerExpiry (busy { car with nodes := upd car.nodes 4 fun r => { r with presence := .absent } })
      (fun t => t.roof.classB = [⟨4, .announceRequest, 0⟩]) ∧
    Gives .trainLinkSilenceExpiry { car with train := { car.train with silence := none } } (fun t => t.train.silent = false) ∧
    Gives .trainLinkSilenceExpiry (ready .idle) (fun t => t.co.ordered = none ∧ t.train.silent = true) := by
  intro h
  refine ⟨of_exec (((h ticking ?_).1 1 ⟨21, 2, some 1⟩ ?_).1 ?_ ?_) ?_, of_exec (((h ticking ?_).1 0 ⟨20, 0, some 0⟩ ?_).2 ?_ ?_) ?_,
    of_exec (((h ticking ?_).2.1 0).1 ?_) ?_, of_exec (((h ticking ?_).2.1 1).2 ?_) ?_,
    of_exec (((h ticking ?_).2.2.1 9 ?_).1 ?_) ?_, of_exec (((h ticking ?_).2.2.1 9 ?_).2 ?_) ?_,
    of_exec ((h car ?_).2.2.2.1 ?_) ?_, of_exec ((h car ?_).2.2.2.2.1 ?_) ?_,
    of_exec ((h ticking ?_).2.2.2.2.2.1 ?_) ?_, of_exec ((h car ?_).2.2.2.2.2.2.1 ?_) ?_,
    of_exec (((h car ?_).2.2.2.2.2.2.2.1 ?_).1 ?_) ?_,
    of_exec (((h (busy { car with nodes := upd car.nodes 4 fun r => { r with presence := .absent } }) ?_).2.2.2.2.2.2.2.1 ?_).2 4 ?_ ?_ ?_ ?_) ?_,
    of_exec ((h { car with train := { car.train with silence := none } } ?_).2.2.2.2.2.2.2.2.1 ?_) ?_,
    of_exec ((h (ready .idle) ?_).2.2.2.2.2.2.2.2.2 ?_ ?_) ?_⟩ <;> decide +kernel

/-- L1 in a state with its phase timer at 0, the controller in a state with its own. -/
def expiring (c : ChanState) (ct : ChanTimer) (co : CoState) (t : CoTimer) : State := busy { car with
  channels := car.channels.set 0 { state := c, duty := if c = .raising then .scrape else .noDuty, phase := some (ct, 0), counter := if c = .raising then 0 else 4 }
  co := { car.co with state := co, active := some 0, ordered := some 0, phase := some (t, 0), close := .queued, neutralAnnounced := true } }

/-- The car with L1 raised as collector, L4 LOWERING with its lower window at 0, the controller in a state with its phase timer at 0. -/
def withCollector (st : CoState) (t : CoTimer) : State := let s := bringingUp st .up false
  { s with
    channels := s.channels.set 3 { state := .lowering, cause := some .order, phase := some (.lowerWindow, 0) }
    co := { s.co with phase := some (t, 0), close := .queued } }

/-- A scrape run whose channel L4 is still RAISING, its raise window at 0. -/
def scrapeRaising : State := { scraping with
  channels := scraping.channels.set 3 { up .scrape with state := .raising, phase := some (.raiseWindow, 0) }
  scrape := { scraping.scrape with run := .raising, timer := none, since := none } }

theorem witness_WindowsRunOut : Obligations.WindowsRunOut →
    Gives (.raiseWindowExpiry 0) (expiring .raising .raiseWindow .idle .openWindow) (fun t => t.channels[0].lastFault = .raiseTimeout) ∧
    Gives (.raiseWindowExpiry 3) scrapeRaising (fun t => t.channels[3].lastFault = .raiseTimeout ∧ t.scrape.run = .noRun) ∧
    Gives (.raiseWindowExpiry 0) (bringingUp .raising .raising true) (fun t => t.co.state = .idle) ∧
    Gives (.raiseWindowExpiry 0) (bringingUp .raising .raising false) (fun t => t.co.state = .raising ∧ t.co.collector = some 3) ∧
    Gives (.cooldownExpiry 0) (expiring .cooldown .cooldown .idle .openWindow) (fun t => t.channels[0].state = .down) ∧
    Gives (.lowerWindowExpiry 0) car (fun t => t.co.state = .idle) ∧ Gives .openWindowExpiry car (fun t => t.co.state = .idle) ∧
    Gives (.lowerWindowExpiry 3) (withCollector .lockout .openWindow) (fun t => t.channels[3].state = .locked ∧ t.channels[0].state = .up) ∧
    Gives .switchWindowExpiry (expiring .down .cooldown .switching .switchWindow) (fun t => t.co.lockoutCause = .switchFail) ∧
    Gives .closeWindowExpiry (withCollector .closing .closeWindow) (fun t => t.co.lockoutCause = .breakerCloseFail ∧
      t.channels[0].cause = some .safe) ∧
    Gives .openWindowExpiry (withCollector .opening .openWindow) (fun t => t.co.lockoutCause = .breakerOpenFail ∧
      t.channels[0].cause = some .safe) ∧
    Gives (.lowerWindowExpiry 0) (expiring .lowering .lowerWindow .neutral .neutralDeadline) (fun t => t.co.lockoutCause = .lowerFail ∧
      t.co.neutralAnnounced = false) ∧
    Gives (.lowerWindowExpiry 3) (withCollector .powered .openWindow) (fun t => t.channels[3].state = .locked ∧
      t.channels[0].state = .lowering) := by
  intro h
  refine ⟨of_exec (((h (expiring .raising .raiseWindow .idle .openWindow) ?_).1 0 ⟨20, 0, some 0⟩ 0 ?_ ?_ ?_).1 ?_ ?_) ?_,
    of_exec (((h scrapeRaising ?_).1 3 ⟨23, 0, some 6⟩ 0 ?_ ?_ ?_).2.1 ?_ ?_ ?_) ?_,
    of_exec ((((h (bringingUp .raising .raising true) ?_).1 0 ⟨20, 0, some 0⟩ 0 ?_ ?_ ?_).2.2 0 (collects _ _ _ ?_)).1
      (noSubstitute _ _ _ ?_)) ?_,
    of_exec ((((h (bringingUp .raising .raising false) ?_).1 0 ⟨20, 0, some 0⟩ 0 ?_ ?_ ?_).2.2 0 (collects _ _ _ ?_)).2 3 ⟨23, 0, some 6⟩ _
      [⟨23, .raise 3, 0⟩] (substitute _ _ _ _ _ ?_) ?_) ?_,
    of_exec ((h (expiring .cooldown .cooldown .idle .openWindow) ?_).2.1 0 0 ?_ ?_ ?_) ?_,
    of_exec (((h car ?_).2.2.1 0 ?_).2.2) ?_, of_exec (((h car ?_).2.2.2.1 ?_).2.2) ?_,
    of_exec ((h (withCollector .lockout .openWindow) ?_).2.2.2.2.1 3 0 ?_ ?_ ?_) ?_,
    of_exec ((((h (expiring .down .cooldown .switching .switchWindow) ?_).2.2.2.2.2 9 ?_ ?_ ?_).1 0 ?_ ?_).1 ?_) ?_,
    of_exec ((((h (withCollector .closing .closeWindow) ?_).2.2.2.2.2 9 ?_ ?_ ?_).2.1 0 ?_ ?_).2 0 ⟨20, 0, some 0⟩ ?_ ?_ ?_ ?_) ?_,
    of_exec ((((h (withCollector .opening .openWindow) ?_).2.2.2.2.2 9 ?_ ?_ ?_).2.2.1 0 ?_ ?_).2 0 ⟨20, 0, some 0⟩ ?_ ?_ ?_ ?_) ?_,
    of_exec ((((h (expiring .lowering .lowerWindow .neutral .neutralDeadline) ?_).2.2.2.2.2 9 ?_ ?_ ?_).2.2.2 0 0 ?_ ?_ ?_).1 ?_) ?_,
    of_exec ((((h (withCollector .powered .openWindow) ?_).2.2.2.2.2 9 ?_ ?_ ?_).2.2.2 3 0 ?_ ?_ ?_).2 0 ⟨20, 0, some 0⟩ ?_ ?_ ?_ ?_) ?_⟩ <;>
  decide +kernel

/-- The car POWERED's collector alone on the wire, the controller in a state with its phase timer at 0. -/
def ending (co : CoState) (t : CoTimer) (ordered : SysId) : State := busy { powered with
  co := { poweredCo 0 1 with state := co, phase := some (t, 0), ordered := some ordered, close := .notPlaced, openRep := some 3 } }

theorem witness_DeadlinesAndSettleInterval : Obligations.DeadlinesAndSettleInterval →
    Gives .settleIntervalExpiry car (fun t => t.co.state = .idle) ∧
    Gives .recognitionDeadlineExpiry (ending .recognizing .recognitionDeadline 0) (fun t => t.co.state = .lowering ∧ t.co.plan = .idle) ∧
    Gives .neutralDeadlineExpiry (ending .neutral .neutralDeadline 0) (fun t => t.co.plan = .idle) ∧
    Gives .neutralDeadlineExpiry (ending .neutral .neutralDeadline 1) (fun t => t.co.plan = .coasting ∧ t.channels[0].cause = some .changeover) ∧
    Gives .settleIntervalExpiry (ending .switching .settleInterval 0) (fun t => t.co.state = .closing ∧ t.roof.classB = [⟨9, .close, 0⟩]) := by
  intro h
  refine ⟨of_exec (((h car ?_).1 ?_).2.2) ?_,
    of_exec (((h (ending .recognizing .recognitionDeadline 0) ?_).2.1 0 ⟨20, 0, some 0⟩ 0 ?_ ?_ ?_ ?_ ?_).1 ?_ ?_) ?_,
    of_exec (((h (ending .neutral .neutralDeadline 0) ?_).2.1 0 ⟨20, 0, some 0⟩ 0 ?_ ?_ ?_ ?_ ?_).2 ?_ ?_) ?_,
    of_exec (((h (ending .neutral .neutralDeadline 1) ?_).2.1 0 ⟨20, 0, some 0⟩ 0 ?_ ?_ ?_ ?_ ?_).2 ?_ ?_) ?_,
    of_exec ((h (ending .switching .settleInterval 0) ?_).2.2 0 ⟨0, 1, -2000, 2000, 20000, 30000, 420, 580, 3, 1, 1, 120⟩ 9 [⟨9, .close, 0⟩] 0
      ?_ ?_ ?_ ?_ ?_ ?_ ?_ ?_ ?_) ?_⟩ <;> decide +kernel

/-- The car POWERED under system 3 (60 kW), Z2 with passes owed in a state, the stagger timer running or not. -/
def passes (owed : Nat) (z : ZoneState) (stagger : Option Nat) : State := busy { powered with
  co := poweredCo 2 3, now := 3000, stagger := stagger
  zones := upd powered.zones 1 fun r => { r with
    owedPasses := owed, state := z, due := if owed = 0 then none else some 1000, accum := if z = .heating then 180000 else 0, iceRisk := owed = 8 } }

/-- Z2 WAITING and ICE-RISK with fewer than 8 passes owed: a pass has ended since ICE-RISK was set. -/
def stillIcy (owed : Nat) : State :=
  { passes owed .waiting (some 1) with zones := upd (passes owed .waiting (some 1)).zones 1 fun r => { r with iceRisk := true } }

theorem witness_HeaterPassesFallDueStartAndEnd : Obligations.HeaterPassesFallDueStartAndEnd →
    Gives (.passTimerExpiry 1) { car with zones := car.zones.set 1 {} } (fun t => t.zones[1].owedPasses = 0) ∧
    Gives (.passTimerExpiry 1) (passes 0 .idle (some 1)) (fun t => t.zones[1].state = .waiting ∧ t.zones[1].due = some 3000) ∧
    Gives (.passTimerExpiry 1) (passes 7 .heating (some 1)) (fun t => t.zones[1].owedPasses = 8) ∧
    Gives (.passTimerExpiry 1) (stillIcy 3) (fun t => t.zones[1].owedPasses = 4 ∧ t.train.notices = [⟨.iceRisk 1 4 2 .waiting, 1⟩]) ∧
    Gives (.passTimerExpiry 1) (passes 8 .waiting (some 1)) (fun t => t.zones[1].iceRisk = true ∧
      t.train.notices = [⟨.iceRisk 1 8 2 .waiting, 1⟩]) ∧
    Gives .staggerTimerExpiry car (fun t => t.stagger = none) ∧
    Gives .staggerTimerExpiry { car with stagger := some 0 } (fun t => t.stagger = none) ∧
    Gives .staggerTimerExpiry (passes 1 .waiting (some 0)) (fun t => t.zones[1].state = .heating ∧ t.stagger = some 2000) ∧
    Gives (.passCompletion 1) (passes 1 .paused none) (fun t => t.zones[1].state = .paused) ∧
    Gives (.passCompletion 1) (passes 1 .heating (some 1)) (fun t => t.zones[1].state = .idle) ∧
    Gives (.passCompletion 1) (passes 8 .heating (some 1)) (fun t => t.zones[1].owedPasses = 7 ∧ t.zones[1].due = some 61000) := by
  intro h
  refine ⟨of_exec ((h { car with zones := car.zones.set 1 {} } 1 ?_).1 ?_) ?_, of_exec (((h (passes 0 .idle (some 1)) 1 ?_).2.1 ?_).1 ?_ ?_) ?_,
    of_exec (((h (passes 7 .heating (some 1)) 1 ?_).2.1 ?_).2.1 ?_ ?_ ?_) ?_,
    of_exec (((h (stillIcy 3) 1 ?_).2.1 ?_).2.2.1 1000 ?_ ?_ ?_ ?_ ?_) ?_,
    of_exec (((h (passes 8 .waiting (some 1)) 1 ?_).2.1 ?_).2.2.2 1000 ?_ ?_ ?_) ?_,
    of_exec ((h car 1 ?_).2.2.1 ?_) ?_, of_exec ((h { car with stagger := some 0 } 1 ?_).2.2.2.1 ?_ ?_) ?_,
    of_exec ((h (passes 1 .waiting (some 0)) 1 ?_).2.2.2.2.1 31 [⟨31, .heatOn 1, 0⟩] ?_ ?_ ?_ ?_ ?_ ?_ ?_ ?_) ?_,
    of_exec ((h (passes 1 .paused none) 1 ?_).2.2.2.2.2.1 ?_) ?_,
    of_exec ((h (passes 1 .heating (some 1)) 1 ?_).2.2.2.2.2.2 31 [⟨31, .heatOff 1, 0⟩] ?_ ?_ ?_ ?_ ?_) ?_,
    of_exec ((h (passes 8 .heating (some 1)) 1 ?_).2.2.2.2.2.2 31 [⟨31, .heatOff 1, 0⟩] ?_ ?_ ?_ ?_ ?_) ?_⟩ <;> decide +kernel

/-- The busy roof with class A frames for nodes 10 and 21, or none. -/
def urgent (a b : Option AFrame) : State := { busyRoof [] 2 with roof := { (busyRoof [] 2).roof with
  classA := (powered.roof.classA.set 9 a).set 20 b } }

/-- The busy roof with a CLOSE in class B after an entry for a node whose slot is filled. -/
def closing' : State := { busyRoof [32] 15 with roof := { (busyRoof [32] 15).roof with
  classB := [⟨32, .heatOn 2, 1⟩, ⟨9, .close, 2⟩], classC := [⟨32, 81, [], 2⟩] } }

theorem witness_RoofPickTakesTheFirstThatExists : Obligations.RoofPickTakesTheFirstThatExists →
    (roofPick (urgent (some .sustain) (some .lower))).roof.tx.map RoofTx.item = some (.classA 20 .lower) ∧
    (roofPick (urgent (some .sustain) (some .sustain))).roof.tx.map RoofTx.item = some (.classA 9 .sustain) ∧
    (roofPick (busyRoof [32] 1)).roof.bypass = 2 ∧ (roofPick closing').co.close = .transmitted ∧
    (roofPick (busyRoof [33] 2)).roof.bypass = 0 ∧ (roofPick (busyRoof [23, 32, 33, 49] 15)).roof.tx = none := by
  intro h
  have classA : ∀ n : Node, (urgent none none).roof.classA[n] = none := by decide
  refine ⟨of_eq ((h (urgent (some .sustain) (some .lower)) rfl rfl).1 20 .lower ?_ ?_ ?_) (p := fun s : State => s.roof.tx.map RoofTx.item = some (.classA 20 .lower)) ?_,
    of_eq ((h (urgent (some .sustain) (some .sustain)) rfl rfl).2.1 9 ?_ ?_ ?_) (p := fun s : State => s.roof.tx.map RoofTx.item = some (.classA 9 .sustain)) ?_,
    of_eq (((h (busyRoof [32] 1) rfl rfl).2.2.1 classA ?_ [⟨32, .heatOn 2, 1⟩] ⟨33, .heatOn 3, 2⟩
      [⟨23, .raise 3, 3⟩] ?_ ?_ ?_ 2 (fun _ => rfl) (fun x => absurd ⟨_, _, rfl, ?_⟩ x)).1 ?_) (p := fun s : State => s.roof.bypass = 2) ?_,
    of_eq (((h closing' rfl rfl).2.2.1 classA ?_ [⟨32, .heatOn 2, 1⟩] ⟨9, .close, 2⟩
      [] ?_ ?_ ?_ 15 ?_ ?_).2 9 rfl ?_) (p := fun s : State => s.co.close = .transmitted) ?_,
    of_eq ((h (busyRoof [33] 2) rfl rfl).2.2.2.1 classA (.inl ⟨⟨_, _, rfl, ?_⟩, ?_⟩) []
      ⟨49, 80, [], 1⟩ [⟨32, 81, [], 2⟩] ?_ ?_ ?_) (p := fun s : State => s.roof.bypass = 0) ?_,
    of_eq ((h (busyRoof [23, 32, 33, 49] 15) rfl rfl).2.2.2.2 classA ?_ ?_) (p := fun s : State => s.roof.tx = none) ?_⟩
  all_goals first
    | decide +kernel
    | (rintro ⟨⟨e, l, he, hr⟩, hb⟩; cases he; revert hr hb; decide +kernel)
    | (rintro ⟨e, l, he, hr⟩; cases he; revert hr; decide +kernel)
    | (intro _; rfl)

/-- The train transmitter IDLE, with responses, notices and copies. -/
def talking (r : List Response) (n : List Notice) (m : List MirrorCopy) : State := { car with
  train := { car.train with responses := r, notices := n, noticeSeq := 255 }, fwd := { car.fwd with mirror := m } }

theorem witness_TrainPickTakesResponsesFirst : Obligations.TrainPickTakesResponsesFirst →
    (trainPick (talking [⟨0, 17, .ok, []⟩] [⟨.noticesLost 1, 1⟩] [copy50])).train.tx = some (.response ⟨0, 17, .ok, []⟩) ∧
    (trainPick (talking [] [⟨.channelFault 2 .add .locked none 0 640, 1⟩] [copy50])).train.lastFault[2] = some .add ∧
    (trainPick (talking [] [⟨.lineChange .dead .stale 0 0 0 0, 1⟩] [copy50])).train.noticeSeq = 0 ∧
    (trainPick (talking [] [] [copy50])).train.tx = some (.copy copy50) ∧ (trainPick car).train.tx = none := by
  intro h
  refine ⟨of_eq ((h (talking [⟨0, 17, .ok, []⟩] [⟨.noticesLost 1, 1⟩] [copy50]) rfl).1 ⟨0, 17, .ok, []⟩ [] rfl) (p := fun s : State => s.train.tx = some (.response ⟨0, 17, .ok, []⟩)) ?_,
    of_eq (((h (talking [] [⟨.channelFault 2 .add .locked none 0 640, 1⟩] [copy50]) rfl).2 rfl).1 ⟨.channelFault 2 .add .locked none 0 640, 1⟩ [] rfl rfl) (p := fun s : State => s.train.lastFault[2] = some .add) ?_,
    of_eq (((h (talking [] [⟨.lineChange .dead .stale 0 0 0 0, 1⟩] [copy50]) rfl).2 rfl).1 ⟨.lineChange .dead .stale 0 0 0 0, 1⟩ [] rfl rfl) (p := fun s : State => s.train.noticeSeq = 0) ?_,
    of_eq ((((h (talking [] [] [copy50]) rfl).2 rfl).2 rfl).1 copy50 [] rfl) (p := fun s : State => s.train.tx = some (.copy copy50)) ?_,
    of_eq ((((h car rfl).2 rfl).2 rfl).2 rfl) (p := fun s : State => s.train.tx = none) ?_⟩ <;> decide +kernel

/-- A train link record whose filter lets only changes of LINE-CHANGE and CHANNEL-FAULT pass. -/
def filtered : Train := { State.reset.train with
  filter := (State.reset.train.filter.set 0 true).set 5 true, lastLine := some .dead, lastFault := State.reset.train.lastFault.set 3 (some .add) }

/-- One notice waits, repeated 255 times, and there were losses. -/
def lossy (n : List Notice) : Train := { State.reset.train with notices := n, overflow := true, dropped := 65535, lost := 65535 }

theorem witness_NoticeQueueCoalescesAndCountsLosses : Obligations.NoticeQueueCoalescesAndCountsLosses →
    noteNotice (.lineChange .dead .stale 0 0 0 0) filtered = filtered ∧
    noteNotice (.channelFault 3 .add .locked none 0 640) filtered = filtered ∧
    (noteNotice (.lineChange .stale .dead 0 0 0 0) filtered).notices.length = 1 ∧
    (noteNotice (.iceRisk 1 8 0 .waiting) (lossy [⟨.iceRisk 1 8 9 .paused, 255⟩])).notices = [⟨.iceRisk 1 8 0 .waiting, 255⟩] ∧
    (noteNotice (.iceRisk 1 8 0 .waiting) { fullQueue with notices := fullQueue.notices.take 31 }).notices.length = 32 ∧
    (noteNotice (.iceRisk 1 8 0 .waiting) { fullQueue with dropped := 65535 }).dropped = 65535 ∧
    (sendNotice ⟨.iceRisk 1 8 0 .waiting, 1⟩ [] (lossy [])).notices = [⟨.noticesLost 65535, 1⟩] ∧
    ∃ k, (sendNotice ⟨.iceRisk 1 8 0 .waiting, 1⟩ [⟨.noticesLost 0, 255⟩] (lossy [])).notices = [⟨.noticesLost k, 255⟩] := by
  intro h
  refine ⟨(h.1 filtered (.lineChange .dead .stale 0 0 0 0)).1 ⟨?_, .inl ⟨_, _, _, _, _, _, rfl, rfl⟩⟩,
    (h.1 filtered (.channelFault 3 .add .locked none 0 640)).1 ⟨?_, .inr ⟨_, _, _, _, _, _, rfl, ?_⟩⟩,
    of_eq (((h.1 filtered (.lineChange .stale .dead 0 0 0 0)).2 ?_).2.1 ?_ ?_) (p := fun t : Train => t.notices.length = 1) ?_,
    of_eq (((h.1 (lossy [⟨.iceRisk 1 8 9 .paused, 255⟩]) (.iceRisk 1 8 0 .waiting)).2 ?_).1
      [] ⟨.iceRisk 1 8 9 .paused, 255⟩ [] rfl ?_ ?_) (p := fun t : Train => t.notices = [⟨.iceRisk 1 8 0 .waiting, 255⟩]) ?_,
    of_eq (((h.1 { fullQueue with notices := fullQueue.notices.take 31 } (.iceRisk 1 8 0 .waiting)).2 ?_).2.1 ?_ ?_) (p := fun t : Train => t.notices.length = 32) ?_,
    of_eq (((h.1 { fullQueue with dropped := 65535 } (.iceRisk 1 8 0 .waiting)).2 ?_).2.2 ?_ ?_) (p := fun t : Train => t.dropped = 65535) ?_,
    (h.2 ⟨.iceRisk 1 8 0 .waiting, 1⟩ [] (lossy []) rfl).1 (by simp),
    _, (h.2 ⟨.iceRisk 1 8 0 .waiting, 1⟩ [⟨.noticesLost 0, 255⟩] (lossy []) rfl).2.1 [] 0 255 [] rfl ?_⟩
  all_goals first
    | decide +kernel
    | (rintro ⟨_, ⟨_, _, _, _, _, _, e, f⟩ | ⟨_, _, _, _, _, _, e, f⟩⟩ <;> cases e <;> revert f <;> decide +kernel)

end Sys2Proof.Tests
end

/-! # What every operation keeps of the configuration

`State.config` is the part of the state that only loads, clears, REMAP, ICE-SEASON, NOTICE-FILTER and power-on reset may
change. One lemma per operation of the model says that it keeps it, in the order of the model's definitions. -/

namespace Sys2Proof.Machine

/-! ## The configuration of a state -/

/-- The configured part of a zone record (R83). -/
structure ZoneSetting where
  node : Option Node
  rated : Nat
  duration : Nat
  interval : Nat
  seasonOnly : Bool

abbrev ZoneRec.setting (r : ZoneRec) : ZoneSetting := ⟨r.node, r.rated, r.duration, r.interval, r.seasonOnly⟩

/-- The configured part of a node record: its role and expected report period (R108). -/
abbrev NodeRec.setting (r : NodeRec) : Role × Nat := (r.role, r.period)

/-- What `SameConfiguration` compares. -/
structure Configuration where
  systems : Vector (Option SysEntry) 8
  windows : Vector (Option WindowEntry) 16
  interlocks : Vector (Option InterlockEntry) 32
  settings : Settings
  roleMap : Vector Pos 4
  iceSeason : Bool
  filter : Vector Bool 19
  ranks : Vector Nat 4
  positions : Vector (Option PosAssign) 4
  nodes : Vector (Role × Nat) 63
  zones : Vector ZoneSetting 10

def State.config (s : State) : Configuration where
  systems := s.systems
  windows := s.fwd.windows
  interlocks := s.fwd.interlocks
  settings := s.settings
  roleMap := s.roleMap
  iceSeason := s.iceSeason
  filter := s.train.filter
  ranks := s.channels.map Channel.rank
  positions := s.positions.map PosRec.assigned
  nodes := s.nodes.map NodeRec.setting
  zones := s.zones.map ZoneRec.setting

/-- Vectors with the same image under g have entries with the same image. -/
theorem getElem_eq_of_map_eq {α β : Type} {n : Nat} {v w : Vector α n} {g : α → β} (h : v.map g = w.map g) (i : Fin n) :
    g v[i] = g w[i] := by
  simpa using congrArg (·[i]) h

/-- States of one configuration hold the same one in the words of the statements. -/
theorem sameConfiguration_of_config {s t : State} (h : t.config = s.config) : SameConfiguration s t := by
  simp only [State.config, Configuration.mk.injEq] at h
  obtain ⟨hsys, hwin, hint, hset, hmap, hice, hfil, hrank, hpos, hnode, hzone⟩ := h
  refine ⟨hsys, hwin, hint, hset, hmap, hice, hfil, getElem_eq_of_map_eq hrank, getElem_eq_of_map_eq hpos, fun n => ?_,
    fun z => ?_⟩
  · exact Prod.mk.inj (getElem_eq_of_map_eq hnode n)
  · simpa [ZoneRec.setting] using getElem_eq_of_map_eq hzone z

/-! ## Updates of one record -/

section
variable (s : State)

@[simp] theorem config_modRecog (f : Recog → Recog) : (s.modRecog f).config = s.config := rfl
@[simp] theorem config_modCo (f : Changeover → Changeover) : (s.modCo f).config = s.config := rfl
@[simp] theorem config_modScrape (f : Scrape → Scrape) : (s.modScrape f).config = s.config := rfl
@[simp] theorem config_modTakeover (f : Takeover → Takeover) : (s.modTakeover f).config = s.config := rfl
@[simp] theorem config_modRoof (f : Arbiter → Arbiter) : (s.modRoof f).config = s.config := rfl
@[simp] theorem config_stagger (x : Option Nat) : { s with stagger := x }.config = s.config := rfl
@[simp] theorem config_serial (n : Nat) : { s with serial := n }.config = s.config := rfl
@[simp] theorem config_owed (l : List Owed) : { s with owed := l }.config = s.config := rfl
@[simp] theorem config_pending (l : List Instr) : { s with pending := l }.config = s.config := rfl
@[simp] theorem config_announceRetry (x : Option Nat) : { s with announceRetry := x }.config = s.config := rfl
@[simp] theorem config_roofCheckFail (n : Nat) : { s with roofCheckFail := n }.config = s.config := rfl

@[simp] theorem config_modPos (p : Pos) {f : PosRec → PosRec} (h : ∀ r, (f r).assigned = r.assigned) :
    (s.modPos p f).config = s.config := by
  simp [State.config, upd_map_keep _ _ _ _ h]

@[simp] theorem config_modChan (c : Chan) {f : Channel → Channel} (h : ∀ r, (f r).rank = r.rank) :
    (s.modChan c f).config = s.config := by
  simp [State.config, upd_map_keep _ _ _ _ h]

@[simp] theorem config_modZone (z : Zone) {f : ZoneRec → ZoneRec} (h : ∀ r, (f r).setting = r.setting) :
    (s.modZone z f).config = s.config := by
  simp [State.config, upd_map_keep _ _ _ _ h]

@[simp] theorem config_modNode (n : Node) {f : NodeRec → NodeRec} (h : ∀ r, (f r).setting = r.setting) :
    (s.modNode n f).config = s.config := by
  simp [State.config, upd_map_keep _ _ _ _ h]

@[simp] theorem config_modFwd {f : Forward → Forward} (h : ∀ r, (f r).windows = r.windows ∧ (f r).interlocks = r.interlocks) :
    (s.modFwd f).config = s.config := by
  simp [State.config, h]

@[simp] theorem config_modTrain {f : Train → Train} (h : ∀ r, (f r).filter = r.filter) :
    (s.modTrain f).config = s.config := by
  simp [State.config, h]

end

@[simp] theorem config_ite (p : Prop) [Decidable p] (s t : State) :
    (if p then s else t).config = if p then s.config else t.config := apply_ite ..

/-- A run over a list whose every turn keeps the configuration keeps it. -/
theorem config_foldl {α : Type} {f : State → α → State} (h : ∀ s x, (f s x).config = s.config) (l : List α) (s : State) :
    (l.foldl f s).config = s.config := by
  induction l generalizing s with
  | nil => rfl
  | cons x l ih => exact (ih _).trans (h s x)

/-! ## Notices, responses, placements -/

@[simp] theorem noteNotice_filter (d : NoticeData) (t : Train) : (noteNotice d t).filter = t.filter := by
  unfold noteNotice
  split
  · rfl
  · split
    · rfl
    · split <;> rfl

section
variable (s : State)

@[simp] theorem config_queueNotice (d : NoticeData) : (queueNotice d s).config = s.config := by simp [queueNotice]

@[simp] theorem config_addResponse (r : Response) : (addResponse r s).config = s.config := by simp [addResponse]

@[simp] theorem config_placeA (n : Node) (f : AFrame) : (placeA n f s).config = s.config := rfl

@[simp] theorem config_removeSustain (n : Node) : (removeSustain n s).config = s.config := rfl

@[simp] theorem config_removeLower (n : Node) : (removeLower n s).config = s.config := rfl

@[simp] theorem config_clearSlotA (n : Node) : (clearSlotA n s).config = s.config := rfl

@[simp] theorem config_owe (c : BCmd) (k : Nat) : (owe c k s).config = s.config := rfl

@[simp] theorem config_raiseClearsLower (n : Node) (c : BCmd) : (raiseClearsLower n c s).config = s.config := by
  unfold raiseClearsLower; split <;> simp

@[simp] theorem config_placeB (n : Node) (c : BCmd) : (placeB n c s).config = s.config := by
  simp only [placeB]
  split
  · simp
  · split <;> simp

@[simp] theorem config_placeForRole (r : Role) (c : BCmd) : (placeForRole r c s).config = s.config := by
  unfold placeForRole; split <;> simp

@[simp] theorem config_placeABreaker (f : AFrame) : (placeABreaker f s).config = s.config := by
  unfold placeABreaker; split <;> simp

@[simp] theorem config_withdrawClose : (withdrawClose s).config = s.config := rfl

@[simp] theorem config_withdrawRaise (n : Node) : (withdrawRaise n s).config = s.config := rfl

@[simp] theorem config_placeAnnounce (n : Node) : (placeAnnounce n s).config = s.config := by simp [placeAnnounce]

@[simp] theorem config_announceAbsent : (announceAbsent s).config = s.config :=
  config_foldl (fun s n => by simp) _ s

/-! ## The Heater Scheduler -/

@[simp] theorem config_placeHeatOff (z : Zone) : (placeHeatOff z s).config = s.config := by
  unfold placeHeatOff; split <;> simp

@[simp] theorem config_placeHeatOffUnlessMismatch (z : Zone) : (placeHeatOffUnlessMismatch z s).config = s.config := by
  unfold placeHeatOffUnlessMismatch; split <;> simp

@[simp] theorem config_placeHeatOn (z : Zone) : (placeHeatOn z s).config = s.config := by
  unfold placeHeatOn; split <;> simp

@[simp] theorem config_heat (z : Zone) : (heat z s).config = s.config := by
  simp [heat, ZoneRec.setting]

@[simp] theorem config_startZone (z : Zone) : (startZone z s).config = s.config := by
  simp [startZone, ZoneRec.setting]

@[simp] theorem config_pauseZone (z : Zone) : (pauseZone z s).config = s.config := by
  simp [pauseZone, ZoneRec.setting]

@[simp] theorem config_closeGate : (closeGate s).config = s.config := by
  simp only [closeGate, config_stagger]
  exact config_foldl (fun s z => by simp) _ s

@[simp] theorem config_startFromQueue (but : Option Zone) : (startFromQueue but s).config = s.config := by
  unfold startFromQueue
  split
  · rfl
  · split
    · simp
    · split
      · split <;> simp [ZoneRec.setting]
      · rfl

@[simp] theorem config_startDecisionBut (but : Option Zone) : (startDecisionBut but s).config = s.config := by
  unfold startDecisionBut
  split
  · split <;> simp
  · rfl

@[simp] theorem config_startDecision : (startDecision s).config = s.config := config_startDecisionBut s none

@[simp] theorem config_resumeIfAble (z : Zone) : (resumeIfAble s z).config = s.config := by simp [resumeIfAble]

@[simp] theorem config_openGate : (openGate s).config = s.config := by
  simp [openGate, config_foldl config_resumeIfAble]

@[simp] theorem config_gateChange (was : Bool) : (gateChange was s).config = s.config := by simp [gateChange]

@[simp] theorem owePass_setting (now : Nat) (r : ZoneRec) : (owePass now r).setting = r.setting := by
  simp only [owePass]; split
  · rfl
  · split <;> rfl

@[simp] theorem config_iceNotice (z : Zone) : (iceNotice z s).config = s.config := by simp [iceNotice]

@[simp] theorem config_passDue (z : Zone) : (passDue z s).config = s.config := by simp [passDue]

@[simp] theorem endPass_setting (r : ZoneRec) : (endPass r).setting = r.setting := by
  simp only [endPass]; split <;> rfl

@[simp] theorem config_passComplete (z : Zone) : (passComplete z s).config = s.config := by simp [passComplete]

@[simp] theorem config_contactorFailure (z : Zone) (kind : ZoneFailure) : (contactorFailure z kind s).config = s.config := by
  simp [contactorFailure, ZoneRec.setting]

@[simp] theorem config_contactorReport (z : Zone) (p : ContactorPos) : (contactorReport z p s).config = s.config := by
  simp only [contactorReport]; split <;> simp [ZoneRec.setting]

@[simp] theorem config_contactorLost (n : Node) (kind : ZoneFailure) : (contactorLost n kind s).config = s.config := by
  unfold contactorLost; split <;> simp

@[simp] theorem config_contactorPresence (n : Node) : (contactorPresence n s).config = s.config := by
  unfold contactorPresence; split <;> simp

@[simp] theorem config_endRun (why : EndReason) : (endRun why s).config = s.config := by
  simp only [endRun]
  split
  · rfl
  · split <;> simp

@[simp] theorem config_shed (k : Nat) (z : Zone) : (shed k z s).config = s.config := by
  induction k generalizing s with
  | zero => rfl
  | succ k ih =>
    unfold shed
    split
    · rfl
    · split <;> simp [ih]

@[simp] theorem oweForcedPass_setting (now : Nat) (r : ZoneRec) : (oweForcedPass now r).setting = r.setting := by
  unfold oweForcedPass; split <;> rfl

@[simp] theorem config_forceZone (z : Zone) : (forceZone z s).config = s.config := by
  simp only [forceZone]; split <;> simp [ZoneRec.setting]

@[simp] theorem config_forceStrip (strip : Option Zone) : (forceStrip strip s).config = s.config := by
  unfold forceStrip; split <;> simp

@[simp] theorem config_scrapeOnChannel (c : Chan) (old new : ChanState) : (scrapeOnChannel c old new s).config = s.config := by
  simp [scrapeOnChannel]

/-! ## Pantograph Control -/

@[simp] theorem config_placeAChan (c : Chan) (f : AFrame) : (placeAChan c f s).config = s.config := by
  unfold placeAChan; split <;> simp

@[simp] theorem config_removeSustainChan (c : Chan) : (removeSustainChan c s).config = s.config := by
  unfold removeSustainChan; split <;> simp

@[simp] theorem config_withdrawRaiseChan (c : Chan) : (withdrawRaiseChan c s).config = s.config := by
  unfold withdrawRaiseChan; split <;> simp

@[simp] theorem config_placeRaise (c : Chan) : (placeRaise c s).config = s.config := by
  unfold placeRaise; split <;> simp

@[simp] theorem config_faultNotice (c : Chan) (f : ChanFault) (entered : ChanState) (cause : Option LowerCause) (k l : Nat) :
    (faultNotice c f entered cause k l s).config = s.config := by
  unfold faultNotice; split <;> simp

@[simp] theorem loweringRecord_rank (cause : LowerCause) (w : Nat) (r : Channel) : (loweringRecord cause w r).rank = r.rank := by
  simp [loweringRecord]

@[simp] theorem raisingRecord_rank (d : Duty) (l w k : Nat) (r : Channel) : (raisingRecord d l w k r).rank = r.rank := by
  simp [raisingRecord]

@[simp] theorem restRecord_rank (st : ChanState) (phase : Option (ChanTimer × Nat)) (r : Channel) :
    (restRecord st phase r).rank = r.rank := by simp [restRecord]

@[simp] theorem config_lowerCore (c : Chan) (cause : LowerCause) : (lowerCore c cause s).config = s.config := by
  simp [lowerCore]

@[simp] theorem config_enterLowering (c : Chan) (cause : LowerCause) : (enterLowering c cause s).config = s.config := by
  simp [enterLowering]

@[simp] theorem config_faultLowering (c : Chan) (f : ChanFault) : (faultLowering c f s).config = s.config := by
  simp [faultLowering]

@[simp] theorem config_lowerRequest (c : Chan) (cause : LowerCause) : (lowerRequest c cause s).config = s.config := by
  simp [lowerRequest]

@[simp] theorem config_lowerAll (cause : LowerCause) : (lowerAll cause s).config = s.config :=
  config_foldl (fun s c => config_lowerRequest s c cause) _ s

@[simp] theorem config_enterRaising (c : Chan) (d : Duty) : (enterRaising c d s).config = s.config := by simp [enterRaising]

@[simp] theorem config_raiseRequest (c : Chan) (d : Duty) : (raiseRequest c d s).config = s.config := by
  unfold raiseRequest; split <;> simp

@[simp] theorem config_addLocks (c : Chan) : (addLocks c s).config = s.config := by simp [addLocks]

@[simp] theorem config_lockOnAdd (c : Chan) : (lockOnAdd c s).config = s.config := by simp [lockOnAdd]

@[simp] theorem config_dropToCooldown (c : Chan) : (dropToCooldown c s).config = s.config := by simp [dropToCooldown]

@[simp] theorem config_endLowering (c : Chan) : (endLowering c s).config = s.config := by simp [endLowering]

@[simp] theorem config_lowerTimeout (c : Chan) : (lowerTimeout c s).config = s.config := by simp [lowerTimeout]

@[simp] theorem config_raiseComplete (c : Chan) : (raiseComplete c s).config = s.config := by simp [raiseComplete]

@[simp] theorem config_startRun (c : Chan) (o : Origin) : (startRun c o s).config = s.config := by simp [startRun]

@[simp] theorem config_autoScrape : (autoScrape s).config = s.config := by
  unfold autoScrape; split <;> simp

/-! ## The Power Path Controller -/

@[simp] theorem config_setCo (st : CoState) : (setCo st s).config = s.config := by simp [setCo]

@[simp] theorem config_startPhase (k : CoTimer) (ms : Nat) : (startPhase k ms s).config = s.config := rfl

@[simp] theorem config_stopPhase : (stopPhase s).config = s.config := rfl

@[simp] theorem config_openRepOn : (openRepOn s).config = s.config := by simp [openRepOn]

@[simp] theorem config_breakerSustainOff : (breakerSustainOff s).config = s.config := by
  simp only [breakerSustainOff]; split <;> simp

@[simp] theorem config_closeDeparted : (closeDeparted s).config = s.config := by simp [closeDeparted]

@[simp] theorem config_schedulerLowers (was : State) : (schedulerLowers was s).config = s.config := by
  unfold schedulerLowers; split <;> simp

@[simp] theorem config_enterIdle : (enterIdle s).config = s.config := by simp [enterIdle]

@[simp] theorem config_enterCoasting : (enterCoasting s).config = s.config := by simp [enterCoasting]

@[simp] theorem config_finishLowering : (finishLowering s).config = s.config := by simp [finishLowering]

@[simp] theorem config_lowerCollector (cause : LowerCause) : (lowerCollector cause s).config = s.config := by
  unfold lowerCollector; split <;> simp

@[simp] theorem config_lowerScraper : (lowerScraper s).config = s.config := by
  unfold lowerScraper; split <;> simp

@[simp] theorem config_enterCoLowering (plan : Plan) : (enterCoLowering plan s).config = s.config := by
  simp only [enterCoLowering]; split <;> simp

@[simp] theorem config_enterLockout (cause : LockoutCause) : (enterLockout cause s).config = s.config := by
  simp only [enterLockout]; split <;> simp

@[simp] theorem config_enterOpening (plan : Plan) : (enterOpening plan s).config = s.config := by simp [enterOpening]

@[simp] theorem config_awaitSwitch : (awaitSwitch s).config = s.config := by
  simp only [awaitSwitch]; split <;> simp

@[simp] theorem config_admitClose : (admitClose s).config = s.config := by simp [admitClose]

@[simp] theorem config_lowerMisfits (k : SysId) : (lowerMisfits k s).config = s.config :=
  config_foldl (fun s c => by simp) _ s

@[simp] theorem config_changeoverTo (k : SysId) : (changeoverTo k s).config = s.config := by simp [changeoverTo]

@[simp] theorem config_neutralEntry : (neutralEntry s).config = s.config := by simp [neutralEntry]

@[simp] theorem config_enterPath (n : Nat) (e : Entry) : (enterPath n e s).config = s.config := by
  induction n generalizing e s with
  | zero => rfl
  | succ n ih =>
    cases e with
    | switching => simp [enterPath_switching_entry, ih]
    | closing => simp [enterPath_closing_entry, ih]
    | neutral => rw [enterPath_neutral_entry]; split <;> simp [ih]

@[simp] theorem config_enterSwitching : (enterSwitching s).config = s.config := config_enterPath s 5 _

@[simp] theorem config_enterClosing : (enterClosing s).config = s.config := config_enterPath s 5 _

@[simp] theorem config_enterNeutral : (enterNeutral s).config = s.config := config_enterPath s 5 _

@[simp] theorem config_evaluateNeutral : (evaluateNeutral s).config = s.config := by
  unfold evaluateNeutral; split <;> simp

@[simp] theorem config_startWith (k : SysId) (c : Chan) : (startWith k c s).config = s.config := by simp [startWith]

@[simp] theorem config_evaluateRecognizing (k : SysId) : (evaluateRecognizing k s).config = s.config := by
  simp [evaluateRecognizing]

@[simp] theorem config_enterRecognizing : (enterRecognizing s).config = s.config := by
  simp only [enterRecognizing]; split <;> simp

@[simp] theorem config_noSubstitute : (noSubstitute s).config = s.config := by simp [noSubstitute]

@[simp] theorem config_substituteRaise : (substituteRaise s).config = s.config := by
  simp only [substituteRaise]
  split
  · simp
  · split <;> simp

@[simp] theorem config_dropQueuedClose : (dropQueuedClose s).config = s.config := rfl

@[simp] theorem config_collectorLost : (collectorLost s).config = s.config := by
  unfold collectorLost; split <;> simp

@[simp] theorem config_coOnChannel (c : Chan) (old new : ChanState) : (coOnChannel c old new s).config = s.config := by
  simp [coOnChannel]

@[simp] theorem config_coOnResult : (coOnResult s).config = s.config := by
  unfold coOnResult
  split
  case h_1 => split <;> simp
  all_goals simp

@[simp] theorem config_countTrip (kind : TripKind) : (countTrip kind s).config = s.config := by simp [countTrip]

@[simp] theorem config_afterTrip : (afterTrip s).config = s.config := by simp [afterTrip]

@[simp] theorem config_enterPowered : (enterPowered s).config = s.config := by simp [enterPowered]

@[simp] theorem config_carryOutPlan : (carryOutPlan s).config = s.config := by
  simp only [carryOutPlan]; split <;> simp

@[simp] theorem config_breakerReport (p : BreakerPos) : (breakerReport p s).config = s.config := by
  simp only [breakerReport]
  split
  · split
    · simp
    · split <;> simp
  · split
    · simp
    · split <;> simp
  · rfl

@[simp] theorem config_switchWhileSwitching (shows : Bool) : (switchWhileSwitching shows s).config = s.config := by
  simp only [switchWhileSwitching]
  split
  · split
    · split <;> simp
    · rfl
  · simp
  · rfl

@[simp] theorem config_switchReport (p : Nat) : (switchReport p s).config = s.config := by
  simp only [switchReport]; split <;> simp

@[simp] theorem config_breakerSilent : (breakerSilent s).config = s.config := by
  simp only [breakerSilent]; split <;> simp

@[simp] theorem config_switchSilent : (switchSilent s).config = s.config := rfl

@[simp] theorem config_coNodeMismatch : (coNodeMismatch s).config = s.config := by simp [coNodeMismatch]

@[simp] theorem config_powerDown : (powerDown s).config = s.config := by
  simp only [powerDown]
  split
  · rfl
  · split
    case h_5 => split <;> simp
    all_goals simp

@[simp] theorem config_gradedCollector : (gradedCollector s).config = s.config := by
  simp only [gradedCollector]
  split
  case h_2 | h_3 => split <;> simp
  all_goals simp

@[simp] theorem config_switchOutcome (k : Nat) (o : CmdOutcome) : (switchOutcome k o s).config = s.config := by
  simp [switchOutcome]

@[simp] theorem config_closeOutcome (k : Nat) (o : CmdOutcome) : (closeOutcome k o s).config = s.config := by
  simp [closeOutcome]

/-! ## What reaches a channel from outside -/

@[simp] theorem config_chanFault (c : Chan) (f : ChanFault) : (chanFault c f s).config = s.config := by simp [chanFault]

@[simp] theorem config_lowerByOther (c : Chan) (cause : LowerCause) : (lowerByOther c cause s).config = s.config := by
  simp [lowerByOther]

@[simp] theorem config_arcWatch (c : Chan) (contact : Bool) (arc : Nat) : (arcWatch c contact arc s).config = s.config := by
  simp [arcWatch]

@[simp] theorem config_superviseContact (c : Chan) (contact : Bool) (arc : Nat) :
    (superviseContact c contact arc s).config = s.config := by
  simp only [superviseContact]
  split
  · split <;> split <;> simp
  · simp

@[simp] theorem config_loweringEnds (c : Chan) : (loweringEnds c s).config = s.config := by simp [loweringEnds]

@[simp] theorem config_addReport (c : Chan) (pos : PanPos) : (addReport c pos s).config = s.config := by
  simp only [addReport]; split <;> simp

@[simp] theorem config_plainReport (c : Chan) (pos : PanPos) (contact : Bool) (arc : Nat) :
    (plainReport c pos contact arc s).config = s.config := by
  unfold plainReport; split <;> simp

@[simp] theorem config_contactReport (p : Pos) (pos : PanPos) (contact add : Bool) (arc : Nat) :
    (contactReport p pos contact add arc s).config = s.config := by
  simp only [contactReport]; split <;> simp

@[simp] theorem config_lowerWindowExpired (c : Chan) : (lowerWindowExpired c s).config = s.config := by
  simp [lowerWindowExpired]

@[simp] theorem config_raiseOutcome (c : Chan) (k : Nat) (o : CmdOutcome) : (raiseOutcome c k o s).config = s.config := by
  simp [raiseOutcome]

@[simp] theorem config_pantographPresence (n : Node) : (pantographPresence n s).config = s.config := by
  unfold pantographPresence
  split
  · rfl
  · split
    · split <;> simp
    · rfl

/-! ## The Node Roster -/

@[simp] theorem config_deliverPart (c : BCmd) (k : Nat) (o : CmdOutcome) : (deliverPart c k o s).config = s.config := by
  cases c with
  | heatOn z =>
    simp only [deliverPart]
    split
    · cases o <;> simp
    · rfl
  | _ => simp [deliverPart]

@[simp] theorem config_presenceHandOn (n : Node) : (presenceHandOn n s).config = s.config := by
  unfold presenceHandOn
  split
  case h_3 | h_4 => split <;> simp
  all_goals simp

@[simp] theorem config_setPresence (n : Node) (p : Presence) : (setPresence n p s).config = s.config := by
  simp [setPresence]

@[simp] theorem config_removeForMismatch (n : Node) : (removeForMismatch n s).config = s.config := by
  simp only [removeForMismatch]
  rw [config_foldl (fun s e => config_addResponse s _), config_foldl (fun s e => config_deliverPart s _ _ _), config_modRoof]

@[simp] theorem config_enterMismatch (n : Node) : (enterMismatch n s).config = s.config := by simp [enterMismatch]

@[simp] theorem config_becomePresent (n : Node) : (becomePresent n s).config = s.config := by simp [becomePresent]

@[simp] theorem config_judge (n : Node) (fresh : Bool) : (judge n fresh s).config = s.config := by
  unfold judge
  split
  · split <;> simp
  · simp

@[simp] theorem config_announceReport (n : Node) (role cls : Word) : (announceReport n role cls s).config = s.config := by
  simp [announceReport]

@[simp] theorem config_rejudge (n : Node) : (rejudge n s).config = s.config := by simp [rejudge]

@[simp] theorem config_nodeSilenced (n : Node) : (nodeSilenced n s).config = s.config := by simp [nodeSilenced]

@[simp] theorem config_deliver (o : Outstanding) (out : CmdOutcome) (data : List Word) :
    (deliver o out data s).config = s.config := by
  unfold deliver; split <;> simp

@[simp] theorem config_emptySlot (n : Node) : (emptySlot n s).config = s.config := by simp [emptySlot]

@[simp] theorem config_ackReport (n : Node) (q : Byte) (p : List Word) : (ackReport n q p s).config = s.config := by
  unfold ackReport; split <;> simp

@[simp] theorem config_ackTimeout (n : Node) : (ackTimeout n s).config = s.config := by
  unfold ackTimeout; split <;> simp

@[simp] theorem config_takeCopy (m : MirrorCopy) : (takeCopy m s).config = s.config := by simp [takeCopy]

@[simp] theorem config_offerMirror (m : MirrorCopy) : (offerMirror m s).config = s.config := by
  unfold offerMirror; split <;> simp

@[simp] theorem config_restartAge (n : Node) : (restartAge n s).config = s.config := by simp [restartAge]

@[simp] theorem config_deliverReport (n : Node) (r : Report) : (deliverReport n r s).config = s.config := by
  cases r with
  | announce role cls => simp [deliverReport]
  | contact | contactor => simp only [deliverReport]; split <;> simp
  | breaker | switch => simp [deliverReport]

/-! ## Line Measurement and Recognition -/

@[simp] theorem config_changeResult (w : LineResult) : (changeResult w s).config = s.config := by simp [changeResult]

@[simp] theorem config_confirmResult (w : LineResult) : (confirmResult w s).config = s.config := by
  simp only [confirmResult]; split <;> simp

@[simp] theorem config_completeWindow : (completeWindow s).config = s.config := by simp [completeWindow]

@[simp] theorem config_takeSample (w : Word) : (takeSample s w).config = s.config := by
  simp only [takeSample]; split <;> simp

@[simp] theorem config_sampleArrival (q : Byte) (p : List Word) : (sampleArrival q p s).config = s.config :=
  config_foldl config_takeSample p _

@[simp] theorem config_sampleDelivered (n : Node) (q : Byte) (p : List Word) : (sampleDelivered n q p s).config = s.config := by
  simp [sampleDelivered]

@[simp] theorem config_sampleTimeoutExpired : (sampleTimeoutExpired s).config = s.config := by
  simp only [sampleTimeoutExpired]
  split
  · split <;> simp
  · rfl

@[simp] theorem config_deliverFrame (n : Node) (q : Byte) (f : RoofFrame) : (deliverFrame n q f s).config = s.config := by
  cases f with
  | report code p holds => cases holds <;> simp [deliverFrame]
  | _ => simp [deliverFrame]

@[simp] theorem config_mirrorFrame (n : Node) (q : Byte) (f : RoofFrame) : (mirrorFrame n q f s).config = s.config := by
  unfold mirrorFrame; split <;> simp

@[simp] theorem config_unconfiguredFrame (n : Node) (f : RoofFrame) : (unconfiguredFrame n f s).config = s.config := by
  unfold unconfiguredFrame; split <;> simp

@[simp] theorem config_mismatchFrame (n : Node) (f : RoofFrame) : (mismatchFrame n f s).config = s.config := by
  unfold mismatchFrame; split <;> simp

@[simp] theorem config_takeRoofFrame (n : Node) (q : Byte) (f : RoofFrame) : (takeRoofFrame n q f s).config = s.config := by
  simp [takeRoofFrame]

@[simp] theorem config_roofCheckFailed (k : FrameFailure) : (roofCheckFailed k s).config = s.config := by
  simp [roofCheckFailed]

/-! ## The exchange on the train link -/

@[simp] theorem config_discardCommand : (discardCommand s).config = s.config := by simp [discardCommand]

@[simp] theorem config_decideCommand (n : Node) (q c : Byte) (p : List Word) : (decideCommand n q c p s).config = s.config := by
  unfold decideCommand; split <;> simp

@[simp] theorem config_trainFrameTaken : (trainFrameTaken s).config = s.config := by simp [trainFrameTaken]

@[simp] theorem config_discardRequest : (discardRequest s).config = s.config := by simp [discardRequest]

@[simp] theorem config_noteHeld (r : Result) : (noteHeld r s).config = s.config := by simp [noteHeld]

@[simp] theorem config_nodeCommandFrame (n : Node) (q c : Byte) (p : List Word) :
    (nodeCommandFrame n q c p s).config = s.config := by
  simp [nodeCommandFrame]

@[simp] theorem config_trainCheckFailed (k : FrameFailure) : (trainCheckFailed k s).config = s.config := by
  simp [trainCheckFailed]

/-! ## What follows every command -/

@[simp] theorem config_payOne : (payOne s).config = s.config := by
  unfold payOne; split <;> simp

@[simp] theorem config_payOwed (n : Nat) : (payOwed n s).config = s.config := by
  induction n generalizing s with
  | zero => rfl
  | succ n ih => simp [payOwed, ih]

@[simp] theorem config_drain : (drain s).config = s.config := (config_owed _ []).trans (config_payOwed s _)

@[simp] theorem config_grant : (grant s).config = s.config := by simp [grant]

@[simp] theorem config_evaluateTakeover : (evaluateTakeover s).config = s.config := by
  unfold evaluateTakeover; split <;> simp

@[simp] theorem config_takeoverAfter (was : State) : (takeoverAfter was s).config = s.config := by simp [takeoverAfter]

@[simp] theorem config_tellDeparture (x : RoofItem) : (tellDeparture x s).config = s.config := by
  unfold tellDeparture
  split
  · split <;> simp
  all_goals rfl

@[simp] theorem config_roofPick : (roofPick s).config = s.config := by
  unfold roofPick
  split
  · rfl
  · split <;> simp [sendRoof]

@[simp] theorem tellLost_filter (t : Train) : (tellLost t).filter = t.filter := by
  unfold tellLost; split <;> rfl

@[simp] theorem noteSent_filter (d : NoticeData) (t : Train) : (noteSent d t).filter = t.filter := by
  unfold noteSent; split <;> rfl

@[simp] theorem sendNotice_filter (n : Notice) (l : List Notice) (t : Train) : (sendNotice n l t).filter = t.filter := by
  simp [sendNotice]

@[simp] theorem config_trainPick : (trainPick s).config = s.config := by
  unfold trainPick
  split
  · rfl
  · split
    · simp
    · split
      · simp
      · split <;> simp

@[simp] theorem config_follows (was : State) : (follows was s).config = s.config := by simp [follows]

@[simp] theorem config_settle (was : State) : (settle was s).config = s.config := by simp [settle]

/-! ## The orders -/

@[simp] theorem config_startFor (k : SysId) : (startFor k s).state.config = s.config := by
  unfold startFor; split <;> simp [refuse, accept]

@[simp] theorem config_reorderInNeutral (k : SysId) : (reorderInNeutral k s).config = s.config := by
  simp only [reorderInNeutral]; split <;> simp

@[simp] theorem config_reclose (k : SysId) : (reclose k s).config = s.config := by
  simp only [reclose]; split <;> simp

@[simp] theorem config_leaveFor (k : SysId) : (leaveFor k s).config = s.config := by simp [leaveFor]

@[simp] theorem config_whileBusy (k : SysId) : (whileBusy k s).state.config = s.config := by
  unfold whileBusy; split <;> rfl

@[simp] theorem config_powerUpOrder (k : SysId) : (powerUpOrder k s).state.config = s.config := by
  unfold powerUpOrder; split <;> simp [refuse, accept]

@[simp] theorem config_changeoverOrder (k : SysId) : (changeoverOrder k s).state.config = s.config := by
  unfold changeoverOrder; split <;> simp [refuse, accept]

@[simp] theorem config_neutralAheadOrder : (neutralAheadOrder s).state.config = s.config := by
  unfold neutralAheadOrder; split <;> simp [refuse, accept]

@[simp] theorem config_sectionClearOrder : (sectionClearOrder s).state.config = s.config := by
  unfold sectionClearOrder
  split
  · split <;> simp [refuse]
  all_goals rfl

/-- An order that may be refused with HELD keeps the configuration where the order does. -/
theorem config_heldOr {order : State → Reply} (h : ∀ s, (order s).state.config = s.config) :
    (heldOr order s).state.config = s.config := by
  unfold heldOr; split
  · rfl
  · exact h s

theorem config_systemOrder {order : SysId → State → Reply} (h : ∀ k s, (order k s).state.config = s.config) (p : List Word) :
    (systemOrder order p s).state.config = s.config := by
  unfold systemOrder
  split
  · rfl
  · split
    · rfl
    · split
      · rfl
      · exact config_heldOr s (h _)

theorem config_powerDownOrder : (powerDownOrder s).state.config = s.config := config_heldOr s config_powerDown

theorem config_clearLockoutOrder : (clearLockoutOrder s).state.config = s.config := by
  unfold clearLockoutOrder
  split
  · rfl
  · split <;> simp [accept]

@[simp] theorem config_gradedLowering (g : Nat) : (gradedLowering g s).config = s.config := by
  simp [gradedLowering, config_foldl]

theorem config_loweringOrderReply (p : List Word) : (loweringOrderReply p s).state.config = s.config := by
  unfold loweringOrderReply
  split
  · rfl
  · split <;> simp [refuse, accept]

@[simp] theorem config_resetCore (c : Chan) : (resetCore c s).config = s.config := by
  simp only [resetCore]; split <;> simp

@[simp] theorem config_becomeDown (c : Chan) : (becomeDown c s).config = s.config := by simp [becomeDown]

@[simp] theorem config_resetChannel (c : Chan) : (resetChannel c s).config = s.config := by
  simp only [resetChannel]; split <;> simp

theorem config_channelOrder {act : Chan → State → Reply} (h : ∀ c s, (act c s).state.config = s.config) (p : List Word) :
    (channelOrder act p s).state.config = s.config := by
  unfold channelOrder
  split
  · rfl
  · split
    · rfl
    · exact h _ s

theorem config_channelResetOrder (c : Chan) : (channelResetOrder c s).state.config = s.config := by
  unfold channelResetOrder
  split
  · rfl
  · split <;> simp [refuse, accept]

theorem config_channelLowerOrder (c : Chan) : (channelLowerOrder c s).state.config = s.config := by
  unfold channelLowerOrder
  split
  · rfl
  · split
    · rfl
    · split <;> simp [refuse, accept]

@[simp] theorem config_endRunAndLower (why : EndReason) : (endRunAndLower why s).config = s.config := by
  unfold endRunAndLower; split <;> simp

theorem config_scrapeOrder : (scrapeOrder s).state.config = s.config := by
  unfold scrapeOrder
  split
  · rfl
  · split
    · rfl
    · split <;> simp [refuse, accept]

theorem config_depotAccessOrder (p : List Word) : (depotAccessOrder p s).state.config = s.config := by
  unfold depotAccessOrder
  split
  · rfl
  · split <;> rfl

theorem config_partResetOrder : (partResetOrder s).state.config = s.config := by
  unfold partResetOrder; split <;> simp [refuse, accept]

/-! ## Part reset and completions -/

@[simp] theorem config_resetArbiter : (resetArbiter s).config = s.config := rfl

@[simp] theorem config_resetTrain : (resetTrain s).config = s.config := by simp [resetTrain]

@[simp] theorem config_resetRecognition : (resetRecognition s).config = s.config := rfl

@[simp] theorem resetChanRecord_rank (r : Channel) : (resetChanRecord r).rank = r.rank := by simp [resetChanRecord]

@[simp] theorem config_resetIntoLowering (c : Chan) : (resetIntoLowering c s).config = s.config := by simp [resetIntoLowering]

@[simp] theorem config_resetIntoDown (c : Chan) : (resetIntoDown c s).config = s.config := by simp [resetIntoDown]

@[simp] theorem config_resetChan (c : Chan) : (resetChan s c).config = s.config := by
  unfold resetChan; split <;> simp

@[simp] theorem config_resetChannels : (resetChannels s).config = s.config := config_foldl config_resetChan _ s

@[simp] theorem config_resetChangeover : (resetChangeover s).config = s.config := rfl

/-- A map over the zones that keeps what is configured of each, with any value of the stagger timer. -/
theorem config_mapZones {f : ZoneRec → ZoneRec} (h : ∀ r, (f r).setting = r.setting) (x : Option Nat) :
    { s with zones := s.zones.map f, stagger := x }.config = s.config := by
  simp [State.config, Function.comp_def, h]

theorem resetZoneRecord_setting (ice : Bool) (r : ZoneRec) : (resetZoneRecord ice r).setting = r.setting := rfl

@[simp] theorem config_resetHeatOff (z : Zone) : (resetHeatOff s z).config = s.config := by simp [resetHeatOff]

@[simp] theorem config_resetScheduler : (resetScheduler s).config = s.config := by
  simp only [resetScheduler]
  rw [config_mapZones _ (resetZoneRecord_setting _), config_foldl config_resetHeatOff, config_modScrape]

@[simp] theorem config_resetForward : (resetForward s).config = s.config := by simp [resetForward]

@[simp] theorem config_resetRoster : (resetRoster s).config = s.config := by
  simp [resetRoster, State.config, Function.comp_def, resetNode]

@[simp] theorem config_endOfReset : (endOfReset s).config = s.config := by
  simp only [endOfReset]; split <;> simp

@[simp] theorem config_partReset : (partReset s).config = s.config := by simp [partReset]

@[simp] theorem completeNode_setting (x : RoofTx) (r : NodeRec) : (completeNode x r).setting = r.setting := by
  simp only [completeNode]; split <;> split <;> rfl

@[simp] theorem config_completeTakeover : (completeTakeover s).config = s.config := by simp [completeTakeover]

@[simp] theorem config_roofComplete : (roofComplete s).config = s.config := by
  unfold roofComplete; split <;> simp

@[simp] theorem config_trainComplete : (trainComplete s).config = s.config := by
  simp only [trainComplete]
  split
  · rfl
  · split <;> simp

@[simp] theorem config_requestAsserted : (requestAsserted s).config = s.config := rfl

@[simp] theorem config_releaseGrant : (releaseGrant s).config = s.config := by simp [releaseGrant]

@[simp] theorem config_requestDeasserted : (requestDeasserted s).config = s.config := by
  simp only [requestDeasserted]; split <;> simp

/-! ## Expiries and the clock -/

@[simp] theorem config_expireSample : (expireSample s).config = s.config := by simp [expireSample]

@[simp] theorem config_expireRaiseWindow (c : Chan) : (expireRaiseWindow c s).config = s.config := by simp [expireRaiseWindow]

@[simp] theorem config_expireLowerWindow (c : Chan) : (expireLowerWindow c s).config = s.config := by simp [expireLowerWindow]

@[simp] theorem config_expireLowerRep (c : Chan) : (expireLowerRep c s).config = s.config := by simp [expireLowerRep]

@[simp] theorem config_expireCooldown (c : Chan) : (expireCooldown c s).config = s.config := by simp [expireCooldown]

@[simp] theorem config_expireChanSustain (c : Chan) : (expireChanSustain c s).config = s.config := by simp [expireChanSustain]

@[simp] theorem config_expireBreakerSustain : (expireBreakerSustain s).config = s.config := by simp [expireBreakerSustain]

@[simp] theorem config_expireOpenRep : (expireOpenRep s).config = s.config := by simp [expireOpenRep]

@[simp] theorem config_expireRecognition : (expireRecognition s).config = s.config := by simp [expireRecognition]

@[simp] theorem config_expireSwitchWindow : (expireSwitchWindow s).config = s.config := by simp [expireSwitchWindow]

@[simp] theorem config_expireSettle : (expireSettle s).config = s.config := by simp [expireSettle]

@[simp] theorem config_expireCloseWindow : (expireCloseWindow s).config = s.config := by simp [expireCloseWindow]

@[simp] theorem config_expireOpenWindow : (expireOpenWindow s).config = s.config := by simp [expireOpenWindow]

@[simp] theorem config_expireNeutral : (expireNeutral s).config = s.config := by simp [expireNeutral]

@[simp] theorem config_expireTripQuiet : (expireTripQuiet s).config = s.config := by simp [expireTripQuiet]

@[simp] theorem config_expirePassTimer (z : Zone) : (expirePassTimer z s).config = s.config := by simp [expirePassTimer]

@[simp] theorem config_expireStagger : (expireStagger s).config = s.config := by simp [expireStagger]

@[simp] theorem config_expirePass (z : Zone) : (expirePass z s).config = s.config := by simp [expirePass]

@[simp] theorem config_expireScrape : (expireScrape s).config = s.config := by simp [expireScrape]

@[simp] theorem config_expireAnnounce : (expireAnnounce s).config = s.config := by simp [expireAnnounce]

@[simp] theorem config_expireSilence : (expireSilence s).config = s.config := by
  simp only [expireSilence]; split <;> simp

@[simp] theorem config_advance : (advance s).config = s.config := by
  simp [advance, State.config, Function.comp_def, tickChan, tickNode, tickZone]

end

/-! ## Commands -/

/-- A command whose action keeps the configuration keeps it. -/
theorem config_react {act : State → State} (h : ∀ s, (act s).config = s.config) {s t : State} (e : react act s = .next t) :
    t.config = s.config := by
  cases e
  rw [config_settle, h]

/-- A management request whose own rule keeps the configuration keeps it. -/
theorem config_manage {decide : State → Reply} (h : ∀ s, (decide s).state.config = s.config) (q c : Byte) (s : State) :
    (manage q c decide s).config = s.config := by
  simp only [manage]
  split
  · simp
  · simp [respond, h]

/-- A management request whose own rule keeps the configuration, with what follows it. -/
theorem config_request {decide : State → Reply} (h : ∀ s, (decide s).state.config = s.config) {q c : Byte} {s t : State}
    (e : react (manage q c decide) s = .next t) : t.config = s.config :=
  config_react (config_manage h q c) e

theorem config_unknownReply (c : Byte) (s : State) : (unknownReply c s).state.config = s.config := rfl

@[simp] theorem refuse_state (s : State) (r : Result) : (refuse s r).state = s := rfl

@[simp] theorem accept_state (s : State) (d : List Word) : (accept s d).state = s := rfl

/-- The answers of a read: OK with words, or BAD-ENTRY, from the state as it is (R158, R159). -/
def IsRead (s : State) (r : Reply) : Prop := (∃ d, r = accept s d) ∨ r = refuse s .badEntry

theorem IsRead.state {s : State} {r : Reply} (h : IsRead s r) : r.state = s := by
  obtain ⟨d, rfl⟩ | rfl := h <;> rfl

theorem IsRead.accept (s : State) (d : List Word) : IsRead s (accept s d) := .inl ⟨d, rfl⟩

theorem IsRead.refuse (s : State) : IsRead s (refuse s .badEntry) := .inr rfl

theorem wholeRecord_isRead (s : State) (i : Word) (d : List Word) : IsRead s (wholeRecord s i d) := by
  unfold wholeRecord; split
  · exact .accept s d
  · exact .refuse s

theorem numberedRecord_isRead {n : Nat} (s : State) (i : Word) (d : Fin n → List Word) : IsRead s (numberedRecord s i d) := by
  unfold numberedRecord; split
  · exact .accept s _
  · exact .refuse s

theorem readRecord_isRead (p : List Word) (s : State) : IsRead s (readRecord p s) := by
  unfold readRecord
  split
  · split
    case h_4 | h_5 | h_6 => exact numberedRecord_isRead ..
    case h_9 => exact .refuse s
    all_goals exact wholeRecord_isRead ..
  · exact .refuse s

theorem readTable_isRead (p : List Word) (s : State) : IsRead s (readTable p s) := by
  unfold readTable
  split
  · split
    case h_1 => exact .refuse s
    case h_8 =>
      split
      · split
        · exact .refuse s
        · exact .accept s _
      · exact .refuse s
    all_goals exact numberedRecord_isRead ..
  · exact .refuse s

theorem config_of_state_eq {decide : State → Reply} (h : ∀ s, (decide s).state = s) (s : State) :
    (decide s).state.config = s.config := congrArg State.config (h s)

/-- A command that is no load, clear, REMAP, ICE-SEASON, NOTICE-FILTER or power-on reset keeps the configuration. -/
theorem config_exec {c : Instr} (hc : configures c = false) {s t : State} (e : exec c s = .next t) : t.config = s.config := by
  cases c with
  | powerOnReset | remap | iceSeason | noticeFilter | loadEntrySystem | loadEntryPosition | loadEntryZone | loadEntryNode
  | loadEntryWindow | loadEntryInterlock | loadEntryConfig | clearEntrySystem | clearEntryPosition | clearEntryZone
  | clearEntryNode | clearEntryWindow | clearEntryInterlock | clearEntryConfig => cases hc
  | roofFrameIgnored => cases e; rfl
  | trainFrameIgnored => cases e; exact config_trainFrameTaken s
  | roofFrameCheckFailure kind => exact config_react (config_roofCheckFailed · kind) e
  | sample n q p => exact config_react (config_takeRoofFrame · n q _) e
  | contact n q p | breakerState n q p | switchState n q p | contactorState n q p | announce n q p =>
    exact config_react (config_takeRoofFrame · n q _) e
  | ack n q k p | unknownReport n q k p => exact config_react (config_takeRoofFrame · n q _) e
  | trainFrameCheckFailure kind => exact config_react (config_trainCheckFailed · kind) e
  | unknownRequest q k p => exact config_request (config_unknownReply k) e
  | readStatus q p => exact config_request (config_of_state_eq fun s => (readRecord_isRead p s).state) e
  | readEntry q p => exact config_request (config_of_state_eq fun s => (readTable_isRead p s).state) e
  | nodeCommand n q k p => exact config_react (config_nodeCommandFrame · n q k p) e
  | powerUp q p => exact config_request (config_systemOrder · (fun k s => config_powerUpOrder s k) p) e
  | changeover q p => exact config_request (config_systemOrder · (fun k s => config_changeoverOrder s k) p) e
  | powerDown q p => exact config_request config_powerDownOrder e
  | neutralAhead q p => exact config_request (config_heldOr · config_neutralAheadOrder) e
  | sectionClear q p => exact config_request (config_heldOr · config_sectionClearOrder) e
  | clearLockout q p => exact config_request config_clearLockoutOrder e
  | loweringOrder q p => exact config_request (config_loweringOrderReply · p) e
  | channelReset q p => exact config_request (config_channelOrder · (fun c s => config_channelResetOrder s c) p) e
  | channelLower q p => exact config_request (config_channelOrder · (fun c s => config_channelLowerOrder s c) p) e
  | scrape q p => exact config_request config_scrapeOrder e
  | depotAccess q p => exact config_request (config_depotAccessOrder · p) e
  | partReset q p => exact config_request config_partResetOrder e
  | takeoverRequestAsserted => exact config_react config_requestAsserted e
  | takeoverRequestDeasserted => exact config_react config_requestDeasserted e
  | roofTransmissionComplete => exact config_react config_roofComplete e
  | trainTransmissionComplete => exact config_react config_trainComplete e
  | sampleTimeout => exact config_react config_expireSample e
  | raiseWindowExpiry c => exact config_react (config_expireRaiseWindow · c) e
  | lowerWindowExpiry c => exact config_react (config_expireLowerWindow · c) e
  | lowerRepetition c => exact config_react (config_expireLowerRep · c) e
  | cooldownExpiry c => exact config_react (config_expireCooldown · c) e
  | channelSustainTimerExpiry c => exact config_react (config_expireChanSustain · c) e
  | breakerSustainTimerExpiry => exact config_react config_expireBreakerSustain e
  | openRepetition => exact config_react config_expireOpenRep e
  | recognitionDeadlineExpiry => exact config_react config_expireRecognition e
  | switchWindowExpiry => exact config_react config_expireSwitchWindow e
  | settleIntervalExpiry => exact config_react config_expireSettle e
  | closeWindowExpiry => exact config_react config_expireCloseWindow e
  | openWindowExpiry => exact config_react config_expireOpenWindow e
  | neutralDeadlineExpiry => exact config_react config_expireNeutral e
  | tripQuietTimerExpiry => exact config_react config_expireTripQuiet e
  | passTimerExpiry z => exact config_react (config_expirePassTimer · z) e
  | staggerTimerExpiry => exact config_react config_expireStagger e
  | passCompletion z => exact config_react (config_expirePass · z) e
  | scrapeTimerExpiry => exact config_react config_expireScrape e
  | nodeSilence n => exact config_react (config_nodeSilenced · n) e
  | ackDeadlineExpiry n => exact config_react (config_ackTimeout · n) e
  | announceRetryTimerExpiry => exact config_react config_expireAnnounce e
  | trainLinkSilenceExpiry => exact config_react config_expireSilence e

/-- Settles O10: each operation keeps `State.config`, one lemma per operation, and so does each command that does not
configure. -/
theorem configurationChangesOnlyByItsCommands : Obligations.ConfigurationChangesOnlyByItsCommands :=
  fun _ _ _ hc e => sameConfiguration_of_config (config_exec hc e)

end Sys2Proof.Machine

/-! # The uniqueness rules and ranges of the tables

Commands that keep the configuration keep them; each load, clear and order that writes the configuration keeps them by its
own checks: DUPLICATE, OVERLAP, the clamping, the permutation test of REMAP. -/

namespace Sys2Proof.Machine

/-! ## Slot tables -/

section
variable {α : Type} {n : Nat} {R : α → α → Prop} {v : Vector (Option α) n}

/-- No two slots of a table hold entries in the relation R. -/
def SlotsApart (R : α → α → Prop) (v : Vector (Option α) n) : Prop :=
  ∀ i j : Fin n, ∀ a b, v[i] = some a → v[j] = some b → R a b → i = j

theorem idsDiffer_iff (v : Vector (Option SysEntry) 8) : idsDiffer v ↔ SlotsApart (fun a b => a.id = b.id) v := Iff.rfl

theorem windowsApart_iff (v : Vector (Option WindowEntry) 16) :
    windowsApart v ↔ SlotsApart (fun a b => a.level = b.level ∧ ∃ n : Node, a.covers n ∧ b.covers n) v :=
  ⟨fun h i j a b ha hb ⟨hl, n, hca, hcb⟩ => h i j a b ha hb hl n hca hcb,
    fun h i j a b ha hb hl n hca hcb => h i j a b ha hb ⟨hl, n, hca, hcb⟩⟩

theorem keysDiffer_iff (v : Vector (Option InterlockEntry) 32) :
    keysDiffer v ↔ SlotsApart (fun a b => a.role = b.role ∧ a.code = b.code) v :=
  ⟨fun h i j a b ha hb hr => h i j a b ha hb hr.1 hr.2, fun h i j a b ha hb hr hc => h i j a b ha hb ⟨hr, hc⟩⟩

/-- A slot after a write to a slot. -/
theorem slot_set (v : Vector (Option α) n) (i j : Fin n) (x : Option α) : (v.set i x)[j] = if i = j then x else v[j] := by
  simp [Vector.getElem_set, Fin.ext_iff]

theorem slotsApart_empty : SlotsApart R (Vector.replicate n none) := by
  intro i j a b ha
  simp at ha

/-- Emptying a slot keeps the entries apart. -/
theorem SlotsApart.set_none (h : SlotsApart R v) (i : Fin n) : SlotsApart R (v.set i none) := by
  intro j k a b ha hb
  rw [slot_set] at ha hb
  split at ha
  · cases ha
  · split at hb
    · cases hb
    · exact h j k a b ha hb

/-- An entry that no other slot's entry is related to can be stored. -/
theorem SlotsApart.set_some (h : SlotsApart R v) (symm : ∀ a b, R a b → R b a) {i : Fin n} {e : α}
    (free : ∀ j a, j ≠ i → v[j] = some a → ¬ R a e) : SlotsApart R (v.set i (some e)) := by
  intro j k a b ha hb hab
  rw [slot_set] at ha hb
  split at ha <;> split at hb
  · exact (‹i = j›).symm.trans ‹i = k›
  · cases ha
    exact absurd (symm _ _ hab) (free k b (Ne.symm ‹¬ i = k›) hb)
  · cases hb
    exact absurd hab (free j a (Ne.symm ‹¬ i = j›) ha)
  · exact h j k a b ha hb hab

/-- What the search of the other slots finds. -/
theorem otherSlot_iff (v : Vector (Option α) n) (i : Fin n) (p : α → Bool) :
    otherSlot v i p = true ↔ ∃ j a, j ≠ i ∧ v[j] = some a ∧ p a = true := by
  simp [otherSlot, Option.any_eq_true_iff_get, Option.eq_some_iff_get_eq]

end

/-! ## Settings -/

/-- The range of an item is not empty. -/
theorem range_le {i : ConfigItem} {lo hi : Nat} (h : i.range? = some (lo, hi)) : lo ≤ hi := by
  cases i <;> cases h <;> decide

/-- The value v may stand in item i (R160). -/
def InRange (i : ConfigItem) (v : Nat) : Prop := ∀ lo hi, i.range? = some (lo, hi) → lo ≤ v ∧ v ≤ hi

theorem default_inRange (i : ConfigItem) : InRange i i.default := by
  intro lo hi h
  cases i <;> cases h <;> decide

theorem clamp_mem {lo hi : Nat} (h : lo ≤ hi) (v : Nat) : lo ≤ clamp lo hi v ∧ clamp lo hi v ≤ hi := by
  unfold clamp; omega

/-- A value that a CONFIG load takes lies in the range of its item. -/
theorem configValue_inRange {i : ConfigItem} {v w : Nat} (h : configValue? i v = some w) : InRange i w := by
  intro lo hi hr
  simp only [configValue?, hr, Option.some.injEq] at h
  subst h
  exact clamp_mem (range_le hr) v

/-- What the value of an item reads of the state. -/
theorem get_congr {s t : State} (hset : t.settings = s.settings) (hrank : ∀ c : Chan, t.channels[c].rank = s.channels[c].rank)
    (c : Chan) (i : ConfigItem) : i.get t (some c) = i.get s (some c) := by
  cases i <;> simp only [ConfigItem.get, hset, hrank]

theorem get_reset (c : Chan) (i : ConfigItem) : i.get State.reset (some c) = i.default := by
  cases i <;> simp [ConfigItem.get, ConfigItem.default, State.reset, onOffValue]

/-- A write to one item leaves the value of another that is no rank: each item has its own field. -/
theorem get_put_other {s t : State} {i j : ConfigItem} {v : Nat} (e : t.settings = i.put v s.settings) (hj : j ≠ .rank)
    (h : j ≠ i) (c : Option Chan) : j.get t c = j.get s c := by
  cases j with
  | rank => exact absurd rfl hj
  | _ => cases i <;> simp [ConfigItem.get, e, ConfigItem.put] at h ⊢

/-- A write to a numeric item that is no rank gives it the value. -/
theorem get_put_self {s t : State} {i : ConfigItem} {v : Nat} (e : t.settings = i.put v s.settings) (hi : i ≠ .rank)
    {r : Nat × Nat} (hr : i.range? = some r) (c : Option Chan) : i.get t c = v := by
  cases i with
  | rank => exact absurd rfl hi
  | autoReclose | acceptCompatible | autoScrape => cases hr
  | _ => simp only [ConfigItem.get, e, ConfigItem.put]

theorem setConfig_settings (i : ConfigItem) (c : Option Chan) (v : Nat) (s : State) :
    (setConfig i c v s).settings = i.put v s.settings := by
  unfold setConfig; split <;> rfl

theorem newContactLoss_rank (l : Nat) (r : Channel) : (newContactLoss l r).rank = r.rank := by
  unfold newContactLoss; split <;> rfl

/-- A write to an item gives a channel's rank the value, or leaves it. -/
theorem setConfig_rank (i : ConfigItem) (c : Option Chan) (v : Nat) (s : State) (d : Chan) :
    (i = .rank ∧ (setConfig i c v s).channels[d].rank = v) ∨ (setConfig i c v s).channels[d].rank = s.channels[d].rank := by
  unfold setConfig
  split
  case h_1 c' =>
    by_cases h : c' = d
    · subst h; exact .inl ⟨rfl, by simp⟩
    · exact .inr (by simp [upd_other _ _ h])
  case h_2 => exact .inr (by simp [newContactLoss_rank])
  case h_3 => exact .inr rfl

theorem setConfig_inRange {i : ConfigItem} {v : Nat} (hv : InRange i v) (c : Option Chan) {s : State} (h : settingsInRange s) :
    settingsInRange (setConfig i c v s) := by
  intro j d lo hi hr
  by_cases hj : j = .rank
  · subst hj
    obtain ⟨rfl, e⟩ | e := setConfig_rank i c v s d
    · simpa only [ConfigItem.get, e] using hv lo hi hr
    · simpa only [ConfigItem.get, e] using h .rank d lo hi hr
  · by_cases hji : j = i
    · subst hji
      rw [get_put_self (setConfig_settings ..) hj hr]
      exact hv lo hi hr
    · rw [get_put_other (setConfig_settings ..) hj hji]
      exact h j d lo hi hr

/-! ## What the rules of the tables read -/

/-- The rules read the tables, the role map, the settings and the ranks. -/
theorem TablesOk.of_same {s t : State} (h : TablesOk s) (hsys : t.systems = s.systems) (hwin : t.fwd.windows = s.fwd.windows)
    (hint : t.fwd.interlocks = s.fwd.interlocks) (hmap : t.roleMap = s.roleMap) (hset : t.settings = s.settings)
    (hrank : ∀ c : Chan, t.channels[c].rank = s.channels[c].rank) : TablesOk t where
  ids := hsys ▸ h.ids
  windows := hwin ▸ h.windows
  keys := hint ▸ h.keys
  map := hmap ▸ h.map
  settings i c lo hi hr := by
    rw [get_congr hset hrank]
    exact h.settings i c lo hi hr

theorem TablesOk.of_config {s t : State} (h : TablesOk s) (e : t.config = s.config) : TablesOk t :=
  have same := sameConfiguration_of_config e
  h.of_same same.systems same.windows same.interlocks same.roleMap same.settings same.ranks

theorem tablesOk_reset : TablesOk State.reset where
  ids := (idsDiffer_iff _).2 slotsApart_empty
  windows := (windowsApart_iff _).2 slotsApart_empty
  keys := (keysDiffer_iff _).2 slotsApart_empty
  map := by decide
  settings i c lo hi hr := by
    rw [get_reset]
    exact default_inRange i lo hi hr

/-! ## Loads and clears -/

section
variable {s : State} (h : TablesOk s)
include h

theorem storeSystem_tables (i : Fin 8) (e : SysEntry) (mask : Word) : TablesOk (storeSystem i e mask s).state := by
  unfold storeSystem
  split
  · exact h
  · split
    · exact h
    next free =>
      rw [otherSlot_iff] at free
      exact { h with
        ids := (idsDiffer_iff _).2 <| SlotsApart.set_some h.ids (fun _ _ => Eq.symm) fun j a hj ha hid =>
          free ⟨j, a, hj, ha, by simpa using hid⟩ }

theorem loadSystem_tables (entry : List Word) : TablesOk (loadSystem entry s).state := by
  unfold loadSystem
  split
  · split
    · exact h
    · split
      · exact storeSystem_tables h ..
      · exact h
  · exact h

omit h in
/-- Two windows that cover an address in common meet. -/
theorem meets_of_covers {v w : WindowEntry} {n : Node} (hv : v.covers n = true) (hw : w.covers n = true) :
    v.meets w = true := by
  simp only [WindowEntry.covers, WindowEntry.meets, decide_eq_true_eq] at *
  exact ⟨hv.1.trans hw.2, hw.1.trans hv.2⟩

theorem storeWindow_tables (i : Fin 16) (w : WindowEntry) : TablesOk (storeWindow i w s).state := by
  unfold storeWindow
  split
  · exact h
  · split
    · exact h
    next free =>
      rw [otherSlot_iff] at free
      exact { h with
        windows := (windowsApart_iff _).2 <| ((windowsApart_iff _).1 h.windows).set_some
          (fun _ _ ⟨hl, n, ha, hb⟩ => ⟨hl.symm, n, hb, ha⟩)
          fun j a hj ha ⟨hl, n, hca, hcw⟩ => free ⟨j, a, hj, ha, by simp [hl, meets_of_covers hca hcw]⟩ }

theorem loadWindow_tables (entry : List Word) : TablesOk (loadWindow entry s).state := by
  unfold loadWindow
  split
  · split
    · exact h
    · split
      · exact storeWindow_tables h ..
      · exact h
  · exact h

theorem storeInterlock_tables (i : Fin 32) (e : InterlockEntry) : TablesOk (storeInterlock i e s).state := by
  unfold storeInterlock
  split
  · exact h
  next free =>
    rw [otherSlot_iff] at free
    exact { h with
      keys := (keysDiffer_iff _).2 <| ((keysDiffer_iff _).1 h.keys).set_some (fun _ _ ⟨hr, hc⟩ => ⟨hr.symm, hc.symm⟩)
        fun j a hj ha ⟨hr, hc⟩ => free ⟨j, a, hj, ha, by simp [hr, hc]⟩ }

theorem loadInterlock_tables (entry : List Word) : TablesOk (loadInterlock entry s).state := by
  unfold loadInterlock
  split
  · split
    · exact h
    · split
      · exact storeInterlock_tables h ..
      · exact h
  · exact h

/-- A clear leaves the state, or makes the change of its slot. -/
theorem clearSlot_tables {n : Nat} (key : List Word) {clear : Fin n → State} (hc : ∀ i, TablesOk (clear i)) :
    TablesOk (clearSlot key s clear).state := by
  unfold clearSlot
  split
  · split
    · exact h
    · split
      · exact hc _
      · exact h
  · exact h

theorem clearSystem_tables (key : List Word) : TablesOk (clearSystem key s).state :=
  clearSlot_tables h key fun i => { h with ids := SlotsApart.set_none h.ids i }

theorem clearWindow_tables (key : List Word) : TablesOk (clearWindow key s).state :=
  clearSlot_tables h key fun i =>
    { h with windows := (windowsApart_iff _).2 (((windowsApart_iff _).1 h.windows).set_none i) }

theorem clearInterlock_tables (key : List Word) : TablesOk (clearInterlock key s).state :=
  clearSlot_tables h key fun i => { h with keys := (keysDiffer_iff _).2 (((keysDiffer_iff _).1 h.keys).set_none i) }

omit h in
theorem config_rejudgeOld (old now : Option Node) (s : State) : (rejudgeOld old now s).config = s.config := by
  unfold rejudgeOld; split <;> simp

omit h in
/-- The positions are no part of the rules of the tables. -/
theorem TablesOk.modPos {s : State} (h : TablesOk s) (p : Pos) (f : PosRec → PosRec) : TablesOk (s.modPos p f) :=
  h.of_same rfl rfl rfl rfl rfl fun _ => rfl

omit h in
/-- The nodes are no part of the rules of the tables. -/
theorem TablesOk.modNode {s : State} (h : TablesOk s) (n : Node) (f : NodeRec → NodeRec) : TablesOk (s.modNode n f) :=
  h.of_same rfl rfl rfl rfl rfl fun _ => rfl

omit h in
/-- The zones are no part of the rules of the tables. -/
theorem TablesOk.modZone {s : State} (h : TablesOk s) (z : Zone) (f : ZoneRec → ZoneRec) : TablesOk (s.modZone z f) :=
  h.of_same rfl rfl rfl rfl rfl fun _ => rfl

theorem loadPosition_tables (entry : List Word) : TablesOk (loadPosition entry s).state := by
  unfold loadPosition
  split
  · split
    · exact h
    · split
      · unfold admitPosition
        split
        · exact h
        · split
          · exact h
          · exact (h.modPos _ _).of_config ((config_rejudgeOld ..).trans (config_rejudge ..))
      · exact h
  · exact h

theorem clearPosition_tables (key : List Word) : TablesOk (clearPosition key s).state :=
  clearSlot_tables h key fun p => (h.modPos p _).of_config (config_rejudgeOld ..)

theorem loadZone_tables (entry : List Word) : TablesOk (loadZone entry s).state := by
  unfold loadZone
  split
  · split
    · unfold admitZone
      split
      · exact h
      · split
        · exact h
        · split
          · exact h
          · exact (h.modZone _ _).of_config (config_startDecision _)
    · exact h
  · exact h

omit h in
theorem config_dropZone (z : Zone) (s : State) : (dropZone z s).config = (s.modZone z unassignZone).config := by
  simp [dropZone]

theorem clearZone_tables (key : List Word) : TablesOk (clearZone key s).state := by
  unfold clearZone
  split
  · split
    · split
      · exact h
      · exact (h.modZone _ _).of_config (config_dropZone ..)
    · exact h
  · exact h

omit h in
theorem config_loadPresence (n : Node) (old : Presence) (s : State) : (loadPresence n old s).config = s.config := by
  simp [loadPresence]

omit h in
theorem config_storeNode (n : Node) (role : Role) (period : Nat) (s : State) :
    (storeNode n role period s).config = (s.modNode n (loadedNode role period)).config := by
  simp only [storeNode]
  split <;> simp only [config_placeAnnounce, config_loadPresence]

theorem loadNode_tables (entry : List Word) : TablesOk (loadNode entry s).state := by
  unfold loadNode
  split
  · split
    · exact h
    · split
      · unfold admitNode
        split
        · exact h
        · split
          · exact h
          · exact (h.modNode _ _).of_config (config_storeNode ..)
      · exact h
  · exact h

theorem clearNode_tables (key : List Word) : TablesOk (clearNode key s).state := by
  unfold clearNode
  split
  · split
    · exact h
    · split
      · split
        · exact h
        · exact h.modNode _ _
      · exact h
  · exact h

theorem setConfig_tables {i : ConfigItem} {v : Nat} (hv : InRange i v) (c : Option Chan) : TablesOk (setConfig i c v s) := by
  have hset : settingsInRange (setConfig i c v s) := setConfig_inRange hv c h.settings
  unfold setConfig at hset ⊢
  split at hset <;> exact { h with settings := hset }

theorem loadConfig_tables (entry : List Word) : TablesOk (loadConfig entry s).state := by
  unfold loadConfig
  split
  · split
    · exact h
    · split
      · exact h
      next hv => exact setConfig_tables h (configValue_inRange hv) _
  · exact h

theorem clearConfig_tables (key : List Word) : TablesOk (clearConfig key s).state := by
  unfold clearConfig
  split
  · split
    · exact h
    · exact setConfig_tables h (default_inRange _) _
  · exact h

/-! ## Orders that configure -/

theorem remapOrder_tables (p : List Word) : TablesOk (remapOrder p s).state := by
  unfold remapOrder
  split
  · split
    · split
      · exact h
      · split
        · exact h
        next hp => exact { h with map := of_decide_eq_true (not_not.1 hp) }
    · exact h
  · exact h

theorem setSeason_tables (on : Bool) : TablesOk (setSeason on s) := by
  simp only [setSeason]
  split
  · exact h
  · have hz : TablesOk { s with iceSeason := on, zones := s.zones.map (seasonTimer on) } :=
      h.of_same rfl rfl rfl rfl rfl fun _ => rfl
    split
    · exact hz
    · exact hz.of_config (config_endRunAndLower _ _)

theorem iceSeasonOrder_tables (p : List Word) : TablesOk (iceSeasonOrder p s).state := by
  unfold iceSeasonOrder
  split
  · exact h
  · split
    · exact h
    · exact setSeason_tables h _

theorem noticeFilterOrder_tables (p : List Word) : TablesOk (noticeFilterOrder p s).state := by
  unfold noticeFilterOrder
  split
  · split
    · split
      · exact h
      · exact h.of_same rfl rfl rfl rfl rfl fun _ => rfl
    · exact h
  · exact h

end

/-! ## Commands and steps -/

/-- A management request whose own rule keeps the rules of the tables, with what follows it. -/
theorem tables_request {decide : State → Reply} (hd : ∀ {s}, TablesOk s → TablesOk (decide s).state) {q c : Byte} {s t : State}
    (h : TablesOk s) (e : react (manage q c decide) s = .next t) : TablesOk t := by
  cases e
  refine TablesOk.of_config ?_ (config_settle _ s)
  have heard : TablesOk (trainFrameTaken s) := h.of_config (config_trainFrameTaken s)
  simp only [manage]
  split
  · exact heard.of_config (config_discardRequest _)
  · exact (hd heard).of_config (by simp [respond])

theorem exec_tables {c : Instr} {s t : State} (h : TablesOk s) (e : exec c s = .next t) : TablesOk t := by
  cases hc : configures c with
  | false => exact h.of_config (config_exec hc e)
  | true =>
    cases c with
    | powerOnReset => cases e; exact tablesOk_reset.of_same rfl rfl rfl rfl rfl fun _ => rfl
    | remap q p => exact tables_request (remapOrder_tables · p) h e
    | iceSeason q p => exact tables_request (iceSeasonOrder_tables · p) h e
    | noticeFilter q p => exact tables_request (noticeFilterOrder_tables · p) h e
    | loadEntrySystem q l => exact tables_request (loadSystem_tables · l) h e
    | clearEntrySystem q l => exact tables_request (clearSystem_tables · l) h e
    | loadEntryPosition q l => exact tables_request (loadPosition_tables · l) h e
    | clearEntryPosition q l => exact tables_request (clearPosition_tables · l) h e
    | loadEntryZone q l => exact tables_request (loadZone_tables · l) h e
    | clearEntryZone q l => exact tables_request (clearZone_tables · l) h e
    | loadEntryNode q l => exact tables_request (loadNode_tables · l) h e
    | clearEntryNode q l => exact tables_request (clearNode_tables · l) h e
    | loadEntryWindow q l => exact tables_request (loadWindow_tables · l) h e
    | clearEntryWindow q l => exact tables_request (clearWindow_tables · l) h e
    | loadEntryInterlock q l => exact tables_request (loadInterlock_tables · l) h e
    | clearEntryInterlock q l => exact tables_request (clearInterlock_tables · l) h e
    | loadEntryConfig q l => exact tables_request (loadConfig_tables · l) h e
    | clearEntryConfig q l => exact tables_request (clearConfig_tables · l) h e
    | _ => cases hc

theorem step_tables {s t : State} (h : TablesOk s) (e : step s = .next t) : TablesOk t := by
  unfold step at e
  split at e
  · unfold idle at e
    split at e
    · cases e; exact h.of_config (config_advance s)
    · exact exec_tables h e
  · exact exec_tables (h.of_config (config_pending s _)) e

/-- Settles O6: commands that do not configure keep what the rules read, and the others keep the rules by their checks. -/
theorem tablesKeepTheirRules : Obligations.TablesKeepTheirRules := fun _ _ h e => step_tables h e

end Sys2Proof.Machine

/-! # Line measurement and recognition (01) -/

namespace Sys2Proof.Machine

/-! ## Figures of a window -/

/-- The variance code is the clamped difference of the integers of R9. -/
theorem varianceCode_eq (S : Int) (Q : Nat) :
    (varianceCode S Q : Int) = max 0 ((Q / 960 : Nat) - S.tdiv 960 * S.tdiv 960) := by
  have square : ((S.tdiv 960).natAbs * (S.tdiv 960).natAbs : Nat) = S.tdiv 960 * S.tdiv 960 := Int.natAbs_mul_self
  rw [← square, varianceCode, meanCode]
  omega

/-- The root with its last k bits found: its square does not exceed v, and it is the greatest such root unless all k bits
are set. -/
theorem rootBits_spec (k v r : Nat) (h : r * r ≤ v) : rootBits k v r * rootBits k v r ≤ v ∧
    (v < (rootBits k v r + 1) * (rootBits k v r + 1) ∨ r + 2 ^ k ≤ rootBits k v r + 1) := by
  induction k generalizing r with
  | zero => exact ⟨h, .inr le_rfl⟩
  | succ k ih =>
    unfold rootBits
    split
    next set =>
      obtain ⟨le, lt | full⟩ := ih (r + 2 ^ k) set
      · exact ⟨le, .inl lt⟩
      · exact ⟨le, .inr (by rw [pow_succ]; omega)⟩
    next unset =>
      obtain ⟨le, lt | full⟩ := ih r h
      · exact ⟨le, .inl lt⟩
      · exact ⟨le, .inl ((not_le.1 unset).trans_le (Nat.mul_self_le_mul_self full))⟩

/-- Sixteen bits of root give the figure that the integer square root gives. -/
theorem amplitude_eq (v : Nat) : amplitude v = min 65535 (2 * v.sqrt) := by
  obtain ⟨le, lt | full⟩ := rootBits_spec 16 v 0 (Nat.zero_le v)
  · rw [amplitude, Nat.eq_sqrt.2 ⟨le, lt⟩]
  · have root_le : rootBits 16 v 0 ≤ v.sqrt := Nat.le_sqrt.2 le
    unfold amplitude
    omega

/-- Settles O16: the bit search finds the integer square root, or a root whose double is above the cap. -/
theorem alternatingAmplitude : Obligations.AlternatingAmplitude := fun S Q =>
  ⟨varianceCode_eq S Q, (varianceCode S Q).sqrt, Nat.sqrt_le _, Nat.lt_succ_sqrt _, amplitude_eq _⟩

/-- Settles O17: the figures are written as R8 and R10 say. -/
theorem windowFiguresAtCompletion : Obligations.WindowFiguresAtCompletion := fun _ => rfl

/-! ## Classification -/

/-- The entry of slot i, where it matches the figures at the level (R16). -/
def matchIn (s : State) (l : Nat) (D : Int) (A F : Nat) (i : Fin 8) : Option SysEntry :=
  s.systems[i].filter fun e => e.level = l ∧ e.covers D A F

/-- The matches of a level, slot by slot. -/
theorem matchesAt_eq (s : State) (l : Nat) (D : Int) (A F : Nat) :
    matchesAt s l D A F = (List.finRange 8).filterMap (matchIn s l D A F) := by
  have slots : s.systems.toList = (List.finRange 8).map fun i => s.systems[i] := by
    apply List.ext_getElem <;> simp
  rw [matchesAt, slots, List.filterMap_map, List.filter_filterMap]
  rfl

theorem matchIn_eq_some {s : State} {l : Nat} {D : Int} {A F : Nat} {i : Fin 8} {e : SysEntry} :
    matchIn s l D A F i = some e ↔ s.systems[i] = some e ∧ e.level = l ∧
      e.dMin ≤ D ∧ D ≤ e.dMax ∧ e.aMin ≤ A ∧ A ≤ e.aMax ∧ e.fMin ≤ F ∧ F ≤ e.fMax := by
  simp [matchIn, SysEntry.covers, Option.filter_eq_some_iff]

section
variable {α β : Type} {f : α → Option β} {l : List α}

/-- Where one place alone of a list gives a value, the values are that one. -/
theorem filterMap_eq_singleton {a : α} {b : β} (hl : l.Nodup) (ha : a ∈ l) (hb : f a = some b)
    (alone : ∀ x ∈ l, x ≠ a → f x = none) : l.filterMap f = [b] := by
  obtain ⟨before, after, rfl⟩ := List.append_of_mem ha
  rw [List.nodup_middle, List.nodup_cons] at hl
  have none_of : ∀ x ∈ before ++ after, f x = none := fun x hx =>
    alone x (by simp at hx ⊢; tauto) fun e => hl.1 (e ▸ hx)
  simp only [List.filterMap_append, List.filterMap_cons, hb,
    List.filterMap_eq_nil_iff.2 fun x hx => none_of x (List.mem_append_left _ hx),
    List.filterMap_eq_nil_iff.2 fun x hx => none_of x (List.mem_append_right _ hx), List.nil_append]

/-- Two places of a list that give values leave more than one value. -/
theorem two_le_length_filterMap {a b : α} (ha : a ∈ l) (hb : b ∈ l) (ne : b ≠ a) (fa : (f a).isSome) (fb : (f b).isSome) :
    2 ≤ (l.filterMap f).length := by
  have both : ∀ x y, (f x).isSome → (f y).isSome → List.Sublist [x, y] l → 2 ≤ (l.filterMap f).length := by
    intro x y hx hy sub
    obtain ⟨u, hu⟩ := Option.isSome_iff_exists.1 hx
    obtain ⟨v, hv⟩ := Option.isSome_iff_exists.1 hy
    simpa [hu, hv] using (sub.filterMap f).length_le
  obtain ⟨before, after, rfl⟩ := List.append_of_mem ha
  obtain hb | hb := List.mem_append.1 hb
  · exact both b a fb fa ((List.singleton_sublist.2 hb).append (List.singleton_sublist.2 List.mem_cons_self))
  · have hb : b ∈ after := (List.mem_cons.1 hb).resolve_left ne
    exact both a b fa fb (((List.singleton_sublist.2 hb).cons_cons a).trans (List.sublist_append_right ..))

end

section
variable {s : State} {l : Nat} {D : Int} {A F : Nat}

theorem levelResult_of_none (h : ∀ i e, matchIn s l D A F i ≠ some e) : levelResult (matchesAt s l D A F) = none := by
  rw [matchesAt_eq, List.filterMap_eq_nil_iff.2 fun i _ => Option.eq_none_iff_forall_ne_some.2 (h i)]
  rfl

theorem levelResult_of_one {i : Fin 8} {e : SysEntry} (he : matchIn s l D A F i = some e)
    (alone : ∀ j f, matchIn s l D A F j = some f → j = i) : levelResult (matchesAt s l D A F) = some (.system e.id) := by
  rw [matchesAt_eq, filterMap_eq_singleton (List.nodup_finRange 8) (List.mem_finRange i) he fun j _ hj =>
    Option.eq_none_iff_forall_ne_some.2 fun f hf => hj (alone j f hf)]
  rfl

theorem levelResult_of_two_le {m : List SysEntry} (h : 2 ≤ m.length) : levelResult m = some .ambiguous := by
  match m, h with
  | _ :: _ :: _, _ => rfl

theorem levelResult_of_two {i j : Fin 8} {e f : SysEntry} (he : matchIn s l D A F i = some e)
    (hf : matchIn s l D A F j = some f) (ne : j ≠ i) : levelResult (matchesAt s l D A F) = some .ambiguous := by
  rw [matchesAt_eq]
  exact levelResult_of_two_le (two_le_length_filterMap (List.mem_finRange i) (List.mem_finRange j) ne (by simp [he])
    (by simp [hf]))

/-- The first level with a result decides (R16). -/
theorem tableResult_of_first (l_pos : 1 ≤ l) (l_le : l ≤ 3) {r : LineResult}
    (lower : ∀ m, 1 ≤ m → m < l → levelResult (matchesAt s m D A F) = none)
    (h : levelResult (matchesAt s l D A F) = some r) : tableResult s D A F = r := by
  interval_cases l
  · simp [tableResult, h]
  · simp [tableResult, lower 1, h]
  · simp [tableResult, lower 1, lower 2, h]

theorem tableResult_of_none (h : ∀ m, 1 ≤ m → m ≤ 3 → levelResult (matchesAt s m D A F) = none) :
    tableResult s D A F = .unknown := by
  simp [tableResult, h]

end

/-- Settles O18: the thresholds first, and then the first level with a match, by the number of slots that match. -/
theorem windowClassification : Obligations.WindowClassification := by
  intro s D A F here dead
  have here_iff : ∀ l i e, here l i e ↔ matchIn s l D A F i = some e := fun l i e => matchIn_eq_some.symm
  have alive (h : ¬ dead) : classify s D A F = tableResult s D A F := if_neg h
  simp only [here_iff]
  refine ⟨fun h => if_pos h, fun h nowhere => ?_, fun h l i e l_pos l_le he first => ?_⟩
  · rw [alive h]
    exact tableResult_of_none fun m m_pos m_le => levelResult_of_none fun i e hm => nowhere m i e ⟨m_pos, m_le, hm⟩
  · have lower : ∀ m, 1 ≤ m → m < l → levelResult (matchesAt s m D A F) = none :=
      fun m m_pos m_lt => levelResult_of_none fun i e => first m i e m_pos m_lt
    rw [alive h]
    exact ⟨fun alone => tableResult_of_first l_pos l_le lower (levelResult_of_one he alone),
      fun j f hf ne => tableResult_of_first l_pos l_le lower (levelResult_of_two he hf ne)⟩

/-! ## Confirmation -/

/-- Settles O19: the two branches of R18; a run count of 0 gives 1 in both. -/
theorem confirmationCountsRuns : Obligations.ConfirmationCountsRuns := by
  intro w r
  refine ⟨fun same => if_pos same, fun other => if_neg other, fun zero => ?_⟩
  unfold countRun
  split
  next same => simp [same, zero, satSucc]
  · simp

/-- The changeover states that a change of the recognised result does not move (R21). -/
def IgnoresLine (s : State) : Prop :=
  s.co.state = .idle ∨ s.co.state = .raising ∨ s.co.state = .opening ∨ s.co.state = .lowering ∨ s.co.state = .coasting ∨
    s.co.state = .lockout

theorem coOnResult_of_ignoresLine {s : State} (h : IgnoresLine s) : coOnResult s = s := by
  unfold coOnResult
  rcases h with e | e | e | e | e | e <;> rw [e]

/-- A change of the recognised result that moves no changeover state: the result and LINE-CHANGE (R20). -/
theorem changeResult_of_ignoresLine {s : State} (h : IgnoresLine s) (w : LineResult) :
    changeResult w s = { s with
      recog := { s.recog with result := w },
      train := noteNotice (.lineChange w s.recog.result s.recog.lastD s.recog.lastA s.recog.lastF s.recog.lastC) s.train } :=
  coOnResult_of_ignoresLine h

section
variable (w : LineResult) (r : Recog)

@[simp] theorem countRun_result : (countRun w r).result = r.result := by unfold countRun; split <;> rfl
@[simp] theorem countRun_lastD : (countRun w r).lastD = r.lastD := by unfold countRun; split <;> rfl
@[simp] theorem countRun_lastA : (countRun w r).lastA = r.lastA := by unfold countRun; split <;> rfl
@[simp] theorem countRun_lastF : (countRun w r).lastF = r.lastF := by unfold countRun; split <;> rfl
@[simp] theorem countRun_lastC : (countRun w r).lastC = r.lastC := by unfold countRun; split <;> rfl

end

/-- The confirm count does not read the recognition record. -/
theorem confirmCount_modRecog (s : State) (f : Recog → Recog) (w : LineResult) :
    confirmCount (s.modRecog f) w = confirmCount s w := by
  cases w <;> rfl

/-- A candidate passes the test of R19. -/
theorem confirmResult_of_confirmed {s : State} {w : LineResult} (reached : confirmCount s w ≤ (countRun w s.recog).run)
    (differs : s.recog.result ≠ w) : confirmResult w s = changeResult w (s.modRecog (countRun w)) := by
  refine if_pos ⟨?_, ?_⟩
  · rwa [confirmCount_modRecog]
  · simpa using differs

/-- A candidate does not pass the test of R19. -/
theorem confirmResult_of_not {s : State} {w : LineResult}
    (h : (countRun w s.recog).run < confirmCount s w ∨ s.recog.result = w) :
    confirmResult w s = s.modRecog (countRun w) := by
  refine if_neg fun ⟨reached, differs⟩ => ?_
  rw [confirmCount_modRecog] at reached
  rcases h with below | same
  · exact absurd reached (not_le.2 below)
  · exact differs (by simpa using same)

/-- Settles O20: the test of R19 on the record with the run counted, and the change of R20 where it passes. -/
theorem confirmedResultIsTaken : Obligations.ConfirmedResultIsTaken := by
  intro s w quiet r need
  have need_eq : need = confirmCount s w := by cases w <;> rfl
  rw [need_eq]
  refine ⟨fun reached differs => ?_, confirmResult_of_not⟩
  have notice : NoticeData.lineChange w r.result r.lastD r.lastA r.lastF r.lastC =
      .lineChange w s.recog.result s.recog.lastD s.recog.lastA s.recog.lastF s.recog.lastC := by simp [r]
  rw [confirmResult_of_confirmed reached differs, changeResult_of_ignoresLine (s := s.modRecog (countRun w)) quiet, ← notice]
  rfl

/-! ## The stream -/

/-- Once a sample has entered, the window keeps its hysteresis (R11). -/
theorem latchH_addSample (h : Nat) (r : Recog) (code : Int) : latchH h (addSample r code) = addSample r code :=
  if_neg (Nat.succ_ne_zero _)

/-- A sample that does not complete the window (R6). -/
theorem takeSample_of_lt {s : State} (h : s.recog.sampleCount + 1 < 960) (w : Word) :
    takeSample s w = { s with recog := addSample (latchH s.settings.hysteresis s.recog) w.toInt } := by
  have count : (addSample (latchH s.settings.hysteresis s.recog) w.toInt).sampleCount = s.recog.sampleCount + 1 := by
    simp only [addSample, latchH]; split <;> rfl
  exact if_neg (by rw [State.modRecog_recog, count]; omega)

/-- Samples that do not complete the window enter it one by one, under the hysteresis latched at its first (R6, R11). -/
theorem foldl_takeSample (p : List Word) (s : State) (h : s.recog.sampleCount + p.length < 960)
    (latched : latchH s.settings.hysteresis s.recog = s.recog) :
    p.foldl takeSample s = { s with recog := p.foldl (fun r w => addSample r w.toInt) s.recog } := by
  induction p generalizing s with
  | nil => rfl
  | cons w p ih =>
    rw [List.length_cons] at h
    have one : takeSample s w = { s with recog := addSample s.recog w.toInt } := by
      rw [takeSample_of_lt (by omega), latched]
    rw [List.foldl_cons, one, ih _ (by simp only [addSample]; omega) (latchH_addSample ..)]
    rfl

/-- A frame whose samples do not complete the window. -/
theorem foldl_takeSample_latch {p : List Word} (hp : p ≠ []) {s : State} (h : s.recog.sampleCount + p.length < 960) :
    p.foldl takeSample s = { s with
      recog := p.foldl (fun r w => addSample r w.toInt) (latchH s.settings.hysteresis s.recog) } := by
  have count : (latchH s.settings.hysteresis s.recog).sampleCount = s.recog.sampleCount := by
    unfold latchH; split <;> rfl
  cases p with
  | nil => exact absurd rfl hp
  | cons w p =>
    rw [List.length_cons] at h
    rw [List.foldl_cons, takeSample_of_lt (by omega), foldl_takeSample _ _ _ (latchH_addSample ..)]
    · rfl
    · simp only [addSample, count]; omega

theorem latchH_eq (h : Nat) (r : Recog) :
    latchH h r = { r with windowH := if r.sampleCount = 0 then h else r.windowH } := by
  unfold latchH; split <;> rfl

/-- The record from which a frame's window goes on: in sequence as it is, after a gap (R3), or a new one (R2). -/
def streamBase (q : Byte) (r : Recog) : Recog :=
  if r.stream = .live then (if r.lastSeq.map (· + 1) = some q then r else gap r) else { discardWindow r with stream := .live }

theorem streamRecord_eq (q : Byte) (r : Recog) :
    streamRecord q r = { streamBase q r with lastSeq := some q, sampleTimeout := some 20 } := by
  unfold streamRecord streamBase
  cases hr : r.stream <;> rfl

/-- A node that is heard from is MISMATCH only where it was. -/
theorem heardFrom_presence_ne {r : NodeRec} (h : r.presence ≠ .mismatch) : (heardFrom r).presence ≠ .mismatch := by
  simp only [heardFrom]
  split
  · exact nofun
  · exact h

/-- A SAMPLE frame of the line sensor that does not complete the window, in the block that takes it (R1 to R3, R6, R11). -/
theorem sampleDelivered_of_lt {s : State} {n : Node} {q : Byte} {p : List Word} (sensor : s.nodes[n].role = .lineSensor)
    (matching : s.nodes[n].presence ≠ .mismatch) (len : p.length = 16) (room : (streamBase q s.recog).sampleCount + 16 < 960) :
    sampleDelivered n q p s = { s with
      recog := p.foldl (fun r w => addSample r w.toInt) (latchH s.settings.hysteresis (streamRecord q s.recog)) } := by
  have some_word : p ≠ [] := by rintro rfl; cases len
  have fits : (s.modRecog (streamRecord q)).recog.sampleCount + p.length < 960 := by
    rw [State.modRecog_recog, streamRecord_eq, len]; exact room
  calc sampleDelivered n q p s = sampleArrival q p s := if_pos ⟨sensor, matching, len⟩
    _ = _ := foldl_takeSample_latch some_word fits

/-- Settles O21: the frame reaches the block from a node heard again, the stream record follows R2 and R3, and its samples
enter the window. -/
theorem sampleFrameEntersTheWindow : Obligations.SampleFrameEntersTheWindow := by
  intro s n q p taken sensor len cleared base room
  have self : (upd s.nodes n heardFrom)[n] = heardFrom s.nodes[n] := upd_self ..
  refine react_eq_of ((takeRoofFrame_taken taken q (.sample p)).trans ?_) taken.owed
  refine (sampleDelivered_of_lt (s := { s with nodes := upd s.nodes n heardFrom }) (by rwa [self]) ?_ len room).trans ?_
  · rw [self]; exact heardFrom_presence_ne taken.noMismatch
  · rw [latchH_eq, streamRecord_eq]
    rfl

/-- What the sample timeout leaves of a LIVE stream, in the changeover states that a line result does not move (R4, R20). -/
theorem sampleTimeoutExpired_eq {s : State} (live : s.recog.stream = .live) (quiet : IgnoresLine s) :
    sampleTimeoutExpired s = { s with
      recog := { staleRecord s.recog with result := .stale },
      train := if s.recog.result = .stale then s.train
        else noteNotice (.lineChange .stale s.recog.result s.recog.lastD s.recog.lastA s.recog.lastF s.recog.lastC)
          s.train } := by
  have act : sampleTimeoutExpired s = if s.recog.result = .stale then s.modRecog staleRecord
      else changeResult .stale (s.modRecog staleRecord) := if_pos live
  rw [act]
  by_cases stale : s.recog.result = .stale
  · have record : staleRecord s.recog = { staleRecord s.recog with result := .stale } := by rw [← stale]; rfl
    rw [if_pos stale, if_pos stale, ← record]
    rfl
  · rw [if_neg stale, if_neg stale, changeResult_of_ignoresLine (s := s.modRecog staleRecord) quiet]
    rfl

/-- Settles O22: the timeout acts where it runs, and only there. -/
theorem sampleTimeoutMakesTheStreamStale : Obligations.SampleTimeoutMakesTheStreamStale := by
  intro s none_owed
  refine ⟨fun stopped => ?_, fun runs live quiet => ?_⟩
  · exact react_eq_of (if_neg (by simp [stopped])) none_owed
  · have act : expireSample s = sampleTimeoutExpired s := if_pos (Option.isSome_iff_ne_none.2 runs)
    exact react_eq_of (act.trans (sampleTimeoutExpired_eq live quiet)) none_owed

end Sys2Proof.Machine

/-! # Reads, and loads and clears of the System Table -/

namespace Sys2Proof.Machine

/-! ## Answers -/

/-- A request that is decided, as its own rule answers it outside HELD: the answer is the one RESPONSE placed (R155). -/
theorem request_answered {s v : State} (h : Decides s) {decide : State → Reply} {r : Result} {d : List Word}
    (e : decide (trainFrameTaken s) = { state := v, result := r, data := d }) (free : r ≠ .held) (ho : v.owed = []) (q k : Byte) :
    react (manage q k decide) s = .next (follows s (addResponse { seq := q, code := k, result := r, data := d } v)) := by
  refine react_eq_of ?_ ho
  rw [manage_decided h, e, respond, noteHeld, if_neg fun held => free held.1]

/-- A request answered OK from the state as it is. -/
theorem request_accepted {s : State} (h : Decides s) {decide : State → Reply} {d : List Word}
    (e : decide (trainFrameTaken s) = accept (trainFrameTaken s) d) (q k : Byte) :
    react (manage q k decide) s = .next (follows s { s with train := answered s q k .ok d }) :=
  request_answered h e nofun h.owed q k

/-- A request refused outside HELD: nothing but the answer changes. -/
theorem request_refused {s : State} (h : Decides s) {decide : State → Reply} {r : Result}
    (e : decide (trainFrameTaken s) = refuse (trainFrameTaken s) r) (free : r ≠ .held) (q k : Byte) :
    react (manage q k decide) s = .next (follows s { s with train := answered s q k r [] }) :=
  request_answered h e free h.owed q k

/-! ## Numbers -/

theorem numbered?_number {n : Nat} (i : Fin n) : numbered? n (number i) = some i := dif_pos ⟨by simp [number], i.isLt⟩

theorem numbered?_isSome_iff (n w : Nat) : (numbered? n w).isSome ↔ 1 ≤ w ∧ w ≤ n := by
  unfold numbered?; split <;> simp_all

theorem word_toNat {v : Nat} (h : v ≤ 65535) : (word v).toNat = v := by
  rw [word, if_pos h, BitVec.toNat_ofNat, Nat.mod_eq_of_lt (by omega)]

/-! ## Reads -/

section
variable (s : State)

theorem wholeRecord_zero (d : List Word) : wholeRecord s 0 d = accept s d := if_pos rfl

theorem wholeRecord_of_ne {i : Word} (h : i ≠ 0) (d : List Word) : wholeRecord s i d = refuse s .badEntry := if_neg h

theorem numberedRecord_number {n : Nat} {w : Word} {i : Fin n} (h : w.toNat = number i) (d : Fin n → List Word) :
    numberedRecord s w d = accept s (d i) := by
  rw [numberedRecord, h, numbered?_number]

theorem numberedRecord_of_mem {n : Nat} {i : Word} (h : 1 ≤ i.toNat ∧ i.toNat ≤ n) (d : Fin n → List Word) :
    ∃ l, numberedRecord s i d = accept s l := by
  obtain ⟨j, hj⟩ := Option.isSome_iff_exists.1 ((numbered?_isSome_iff n i.toNat).2 h)
  exact ⟨d j, by rw [numberedRecord, hj]⟩

theorem numberedRecord_of_not_mem {n : Nat} {i : Word} (h : ¬ (1 ≤ i.toNat ∧ i.toNat ≤ n)) (d : Fin n → List Word) :
    numberedRecord s i d = refuse s .badEntry := by
  rw [numberedRecord, Option.not_isSome_iff_eq_none.1 (mt (numbered?_isSome_iff n i.toNat).1 h)]

end

/-- The kind and index words name a record of READ-STATUS (R158, 11.3). -/
def NamesRecord (kind index : Word) : Prop :=
  ((kind = 1 ∨ kind = 2 ∨ kind = 3 ∨ kind = 7 ∨ kind = 8) ∧ index = 0) ∨
    ((kind = 4 ∧ 1 ≤ index.toNat ∧ index.toNat ≤ 4) ∨ (kind = 5 ∧ 1 ≤ index.toNat ∧ index.toNat ≤ 10) ∨
      (kind = 6 ∧ 1 ≤ index.toNat ∧ index.toNat ≤ 63))

theorem readRecord_of_names {kind index : Word} (h : NamesRecord kind index) (rest : List Word) (s : State) :
    ∃ d, readRecord (kind :: index :: rest) s = accept s d := by
  obtain ⟨rfl | rfl | rfl | rfl | rfl, rfl⟩ | ⟨rfl, hi⟩ | ⟨rfl, hi⟩ | ⟨rfl, hi⟩ := h
  case inr.inl | inr.inr.inl | inr.inr.inr => exact numberedRecord_of_mem s hi _
  all_goals exact ⟨_, wholeRecord_zero s _⟩

theorem readRecord_of_not_names {kind index : Word} (h : ¬ NamesRecord kind index) (rest : List Word) (s : State) :
    readRecord (kind :: index :: rest) s = refuse s .badEntry := by
  have kind_eq : ∀ k : Word, kind.toNat = k.toNat → kind = k := fun k => BitVec.eq_of_toNat_eq
  simp only [readRecord]
  split
  case h_1 e => exact wholeRecord_of_ne s (fun i => h (.inl ⟨.inl (kind_eq 1 e), i⟩)) _
  case h_2 e => exact wholeRecord_of_ne s (fun i => h (.inl ⟨.inr (.inl (kind_eq 2 e)), i⟩)) _
  case h_3 e => exact wholeRecord_of_ne s (fun i => h (.inl ⟨.inr (.inr (.inl (kind_eq 3 e))), i⟩)) _
  case h_4 e => exact numberedRecord_of_not_mem s (fun i => h (.inr (.inl ⟨kind_eq 4 e, i⟩))) _
  case h_5 e => exact numberedRecord_of_not_mem s (fun i => h (.inr (.inr (.inl ⟨kind_eq 5 e, i⟩)))) _
  case h_6 e => exact numberedRecord_of_not_mem s (fun i => h (.inr (.inr (.inr ⟨kind_eq 6 e, i⟩)))) _
  case h_7 e => exact wholeRecord_of_ne s (fun i => h (.inl ⟨.inr (.inr (.inr (.inl (kind_eq 7 e)))), i⟩)) _
  case h_8 e => exact wholeRecord_of_ne s (fun i => h (.inl ⟨.inr (.inr (.inr (.inr (kind_eq 8 e)))), i⟩)) _
  case h_9 => rfl

/-- READ-ENTRY of a System Table slot (R14). -/
theorem readTable_system (i : Fin 8) (rest : List Word) (s : State) :
    readTable (1 :: word (number i) :: rest) s = accept s (slotWords s.systems[i] (SysEntry.words i)) :=
  numberedRecord_number s (word_toNat (by simp only [number]; omega)) _

/-- A code outside the ranges of 11.3 names no request. -/
theorem isRequestCode_eq_false {c : Byte} (low : ¬ (1 ≤ c.toNat ∧ c.toNat ≤ 4)) (high : ¬ (16 ≤ c.toNat ∧ c.toNat ≤ 30)) :
    isRequestCode c = false := by
  simp only [isRequestCode, Bool.or_eq_false_iff, Bool.and_eq_false_iff, decide_eq_false_iff_not]
  omega

/-- Settles O38: each read answers from the state as it is, with the words of the record or slot named, or BAD-ENTRY. -/
theorem readsAndUnknownRequestsChangeNothing : Obligations.ReadsAndUnknownRequestsChangeNothing := by
  intro s q h told
  refine ⟨fun c p low high => ?_, fun kind index rest => ⟨fun names => ?_, fun missing => ?_⟩, fun rest => ?_,
    fun i rest => ⟨fun empty => ?_, fun e full => ?_⟩, fun p => ?_⟩
  · have reply : unknownReply c (trainFrameTaken s) = refuse (trainFrameTaken s) .unknownRequest := by
      rw [unknownReply, isRequestCode_eq_false low high]; rfl
    exact request_refused h reply nofun q c
  · obtain ⟨d, hd⟩ := readRecord_of_names names rest (trainFrameTaken s)
    exact ⟨d, request_accepted h hd q 1⟩
  · exact request_refused h (readRecord_of_not_names missing rest _) nofun q 1
  · exact request_accepted h (wholeRecord_zero _ _) q 1
  · refine request_accepted h ((readTable_system i rest _).trans ?_) q 3
    exact congrArg (accept _ <| slotWords · _) empty
  · refine request_accepted h ((readTable_system i rest _).trans ?_) q 3
    exact congrArg (accept _ <| slotWords · _) full
  · obtain ⟨d, hd⟩ | hd := readTable_isRead p (trainFrameTaken s)
    · exact ⟨.ok, d, request_accepted h hd q 3, .inl rfl⟩
    · exact ⟨.badEntry, [], request_refused h hd nofun q 3, .inr ⟨rfl, rfl⟩⟩

/-! ## The System Table -/

section
variable {s : State} {i : Fin 8} {e : SysEntry} {mask : Word}

theorem storeSystem_bad (h : ¬ (e.consistent = true ∧ maskOk mask = true)) : storeSystem i e mask s = refuse s .badEntry :=
  if_pos (not_and_or.1 h)

theorem storeSystem_duplicate (h : e.consistent = true ∧ maskOk mask = true)
    (held : otherSlot s.systems i (fun x => x.id = e.id) = true) : storeSystem i e mask s = refuse s .duplicate := by
  rw [storeSystem, if_neg (not_or.2 ⟨not_not.2 h.1, not_not.2 h.2⟩), if_pos held]

theorem storeSystem_ok (h : e.consistent = true ∧ maskOk mask = true)
    (free : ¬ otherSlot s.systems i (fun x => x.id = e.id) = true) :
    storeSystem i e mask s = accept { s with systems := s.systems.set i (some e) } (e.words i) := by
  rw [storeSystem, if_neg (not_or.2 ⟨not_not.2 h.1, not_not.2 h.2⟩), if_neg free]

end

/-- Settles O39: outside the freeze a load of an existing slot and id comes to `storeSystem` with the clamped entry, and a clear
empties its slot. -/
theorem systemTableLoadAndClear : Obligations.SystemTableLoadAndClear := by
  intro s q i slot rest h thawed slot_eq told
  have slot_at : numbered? 8 slot.toNat = some i := slot_eq ▸ numbered?_number i
  have thawed' : ¬ frozen (trainFrameTaken s) = true := by rw [show frozen (trainFrameTaken s) = frozen s from rfl, thawed]; simp
  refine ⟨fun k id level dMinH dMinL dMaxH dMaxL aMin aMax fMin fMax confirm mask switch allow id_eq => ?_, ?_⟩
  · intro e load good taken
    have id_at : numbered? 8 id.toNat = some k := id_eq ▸ numbered?_number k
    have clamped : clampSystem k level (wideSigned dMinH dMinL) (wideSigned dMaxH dMaxL) aMin aMax fMin fMax confirm mask
        switch allow = e := by simp [clampSystem, clamp, clampInt, e]
    have stores : loadSystem (slot :: id :: level :: dMinH :: dMinL :: dMaxH :: dMaxL :: aMin :: aMax :: fMin :: fMax ::
        confirm :: mask :: switch :: allow :: rest) (trainFrameTaken s) = storeSystem i e mask (trainFrameTaken s) := by
      simp only [loadSystem, if_neg thawed', slot_at, id_at, clamped]
    have good_iff : good ↔ e.consistent = true ∧ maskOk mask = true := by
      simp only [good, SysEntry.consistent, maskOk, decide_eq_true_eq, Nat.lt_succ_iff, and_assoc]
    have taken_iff : taken ↔ otherSlot (trainFrameTaken s).systems i (fun x => x.id = e.id) = true := by
      simp only [otherSlot_iff, decide_eq_true_eq]; rfl
    rw [good_iff, taken_iff]
    refine ⟨fun bad => ?_, fun ok held => ?_, fun ok free => ?_⟩
    · exact request_refused h (stores.trans (storeSystem_bad bad)) nofun q 2
    · exact request_refused h (stores.trans (storeSystem_duplicate ok held)) nofun q 2
    · exact request_answered h (stores.trans (storeSystem_ok ok free)) nofun h.owed q 2
  · have clears : clearSystem (slot :: rest) (trainFrameTaken s) =
        accept { trainFrameTaken s with systems := s.systems.set i none } [] := by
      simp only [clearSystem, clearSlot, if_neg thawed', slot_at]; rfl
    exact request_answered h clears nofun h.owed q 4

/-! ## Power-on reset -/

section
variable (c : Chan) (z : Zone) (n : Node)

@[simp] theorem reset_channel : State.reset.channels[c] = {} := Vector.getElem_replicate ..
@[simp] theorem reset_zone : State.reset.zones[z] = {} := Vector.getElem_replicate ..
@[simp] theorem reset_node : State.reset.nodes[n] = {} := Vector.getElem_replicate ..
@[simp] theorem reset_position (p : Pos) : State.reset.positions[p] = {} := Vector.getElem_replicate ..
@[simp] theorem reset_classA : State.reset.roof.classA[n] = none := Vector.getElem_replicate ..
@[simp] theorem reset_system (i : Fin 8) : State.reset.systems[i] = none := Vector.getElem_replicate ..
@[simp] theorem reset_window (i : Fin 16) : State.reset.fwd.windows[i] = none := Vector.getElem_replicate ..
@[simp] theorem reset_interlock (i : Fin 32) : State.reset.fwd.interlocks[i] = none := Vector.getElem_replicate ..
theorem reset_roleMap : State.reset.roleMap[c] = c := by revert c; decide

end

theorem queuesOk_reset : QueuesOk State.reset := by
  constructor <;> simp [State.reset]

theorem classAFirst_reset (p : AFrame → Bool) : classAFirst State.reset p = none := by
  rw [classAFirst, List.findSome?_eq_none_iff]
  intro n _
  rw [reset_classA]

theorem nextRoof_reset : nextRoof State.reset = none := by
  simp only [nextRoof, pickA, classAFirst_reset]
  rfl

theorem settled_reset : Settled State.reset :=
  ⟨rfl, fun _ _ => nextRoof_reset, fun _ => ⟨rfl, rfl, rfl⟩⟩

theorem channelsOk_reset : ChannelsOk State.reset := by
  intro c
  rw [reset_channel]
  constructor <;> simp

theorem heatersOk_reset : HeatersOk State.reset := by
  rintro ⟨z, heating⟩
  rw [reset_zone] at heating
  cases heating

/-- Settles O4: at reset every record is the default one, every table and queue empty, and every setting its default. -/
theorem resetMeetsInvariants : Obligations.ResetMeetsInvariants :=
  ⟨queuesOk_reset, tablesOk_reset, settled_reset, channelsOk_reset, heatersOk_reset⟩

/-- Settles O36: what power-on reset leaves is `State.reset` but for the pin and the commands that wait. -/
theorem powerOnResetRestoresEveryBlock : Obligations.PowerOnResetRestoresEveryBlock := by
  intro s
  refine ⟨powerOn s, rfl, rfl, rfl, rfl, reset_system, fun p => ?_, reset_roleMap, fun c => ?_, rfl, rfl, rfl, fun z => ?_,
    rfl, rfl, fun n => ?_, rfl, rfl, rfl, rfl, reset_window, reset_interlock, rfl, rfl, rfl, rfl, rfl⟩
  · rw [show (powerOn s).positions[p] = {} from reset_position p]; exact ⟨rfl, rfl⟩
  · rw [show (powerOn s).channels[c] = {} from reset_channel c]; exact ⟨rfl, rfl, rfl, rfl⟩
  · rw [show (powerOn s).zones[z] = {} from reset_zone z]; exact ⟨rfl, rfl⟩
  · rw [show (powerOn s).nodes[n] = {} from reset_node n]; exact ⟨rfl, rfl, rfl, rfl, reset_classA n⟩

end Sys2Proof.Machine

/-! # What moves a pantograph channel

`Moves v w` says of channel records before and after that each is still legal where it was, and still LOCKED where it was. One
lemma per operation of the model says that it makes no other change; CHANNEL-RESET and the part reset, which may free a LOCKED
channel, keep the records legal. -/

namespace Sys2Proof.Machine

/-! ## Operations that leave the channel records -/

section
variable (s : State)

@[simp] theorem channels_placeB (n : Node) (c : BCmd) : (placeB n c s).channels = s.channels := by
  simp only [placeB]
  split
  · rfl
  · split
    · rfl
    · cases c <;> rfl

@[simp] theorem channels_heat (z : Zone) : (heat z s).channels = s.channels := (HeatOnly.heat z s).channels

@[simp] theorem channels_startZone (z : Zone) : (startZone z s).channels = s.channels := (HeatOnly.startZone z s).channels

@[simp] theorem channels_pauseZone (z : Zone) : (pauseZone z s).channels = s.channels := (HeatOnly.pauseZone z s).channels

@[simp] theorem channels_shed (k : Nat) (z : Zone) : (shed k z s).channels = s.channels := by
  induction k generalizing s with
  | zero => rfl
  | succ k ih =>
    unfold shed
    split
    · rfl
    · split <;> simp [ih]

@[simp] theorem channels_forceZone (z : Zone) : (forceZone z s).channels = s.channels := by
  simp only [forceZone]; split <;> simp

@[simp] theorem channels_forceStrip (strip : Option Zone) : (forceStrip strip s).channels = s.channels := by
  unfold forceStrip
  split
  · rfl
  · split
    · exact channels_forceZone ..
    · rfl

@[simp] theorem channels_scrapeOnChannel (c : Chan) (old new : ChanState) : (scrapeOnChannel c old new s).channels = s.channels :=
  (HeatOnly.scrapeOnChannel c old new s).channels

@[simp] theorem channels_placeAChan (c : Chan) (f : AFrame) : (placeAChan c f s).channels = s.channels := by
  unfold placeAChan; split <;> rfl

@[simp] theorem channels_removeSustainChan (c : Chan) : (removeSustainChan c s).channels = s.channels := by
  unfold removeSustainChan; split <;> rfl

@[simp] theorem channels_withdrawRaiseChan (c : Chan) : (withdrawRaiseChan c s).channels = s.channels := by
  unfold withdrawRaiseChan; split <;> rfl

@[simp] theorem channels_placeRaise (c : Chan) : (placeRaise c s).channels = s.channels := by
  unfold placeRaise; split <;> simp

@[simp] theorem channels_faultNotice (c : Chan) (f : ChanFault) (st : ChanState) (cause : Option LowerCause) (n l : Nat) :
    (faultNotice c f st cause n l s).channels = s.channels := by
  unfold faultNotice; split <;> rfl

/-- A run over a list whose every turn leaves the channel records leaves them. -/
theorem channels_foldl {α : Type} {f : State → α → State} (h : ∀ s x, (f s x).channels = s.channels) (l : List α) (s : State) :
    (l.foldl f s).channels = s.channels := by
  induction l generalizing s with
  | nil => rfl
  | cons x l ih => exact (ih _).trans (h s x)

theorem channels_announceAbsent : (announceAbsent s).channels = s.channels := by
  refine channels_foldl (fun s n => ?_) _ _
  split
  · unfold placeAnnounce; split <;> rfl
  · rfl

theorem channels_evaluateTakeover : (evaluateTakeover s).channels = s.channels := by
  unfold evaluateTakeover
  split
  · split
    · split
      · exact (HeatOnly.gateChange ..).channels
      · rfl
    · rfl
  · split <;> rfl
  · rfl

end

/-! ## Legal moves -/

/-- A change of a channel record that leaves it legal where it was (R26, R34), and LOCKED where it was (R44). -/
structure LegalMove (r r' : Channel) : Prop where
  ok : ChannelOk r → ChannelOk r'
  locked : r.state = .locked → r'.state = .locked

theorem LegalMove.refl (r : Channel) : LegalMove r r := ⟨id, id⟩

theorem LegalMove.trans {r r' r'' : Channel} (h : LegalMove r r') (h' : LegalMove r' r'') : LegalMove r r'' :=
  ⟨h'.ok ∘ h.ok, h'.locked ∘ h.locked⟩

/-- A change of a record that is not LOCKED. -/
theorem LegalMove.of_unlocked {r r' : Channel} (h : r.state ≠ .locked) (ok : ChannelOk r → ChannelOk r') : LegalMove r r' :=
  ⟨ok, fun l => absurd l h⟩

/-- A change that leaves state, duty, counter and limit. -/
theorem LegalMove.of_same {r r' : Channel} (st : r'.state = r.state) (du : r'.duty = r.duty) (co : r'.counter = r.counter)
    (li : r'.limit = r.limit) : LegalMove r r' where
  ok h := ⟨by rw [st, du]; exact h.duty, by rw [co, li]; exact h.counter, by rw [st, co]; exact h.clear⟩
  locked h := st.trans h

/-- A record with the counter clear and no duty, in a state that gives none. -/
theorem channelOk_restRecord {st : ChanState} (h : st ≠ .raising) (h' : st ≠ .up) (p : Option (ChanTimer × Nat)) (r : Channel) :
    ChannelOk (restRecord st p r) where
  duty := by simp [restRecord, h, h']
  counter := Nat.zero_le _
  clear _ := rfl

theorem channelOk_raisingRecord {d : Duty} (h : d ≠ .noDuty) (l w k : Nat) (r : Channel) :
    ChannelOk (raisingRecord d l w k r) where
  duty := by simp [raisingRecord, h]
  counter := Nat.zero_le _
  clear _ := rfl

theorem channelOk_loweringRecord (cause : LowerCause) (w : Nat) {r : Channel} (h : r.counter ≤ r.limit) :
    ChannelOk (loweringRecord cause w r) where
  duty := by simp [loweringRecord]
  counter := h
  clear := by simp [loweringRecord]

/-- Every channel record has made a legal move, or none. -/
def Moves (v w : Vector Channel 4) : Prop := ∀ c : Chan, LegalMove v[c] w[c]

/-- A legal move of one channel after legal moves of all. -/
theorem Moves.upd {v w : Vector Channel 4} (h : Moves v w) (c : Chan) {f : Channel → Channel} (hf : LegalMove w[c] (f w[c])) :
    Moves v (upd w c f) := by
  intro d
  rw [upd_get]
  split
  case isTrue e => subst e; exact (h c).trans hf
  case isFalse => exact h d

theorem Moves.map {v w : Vector Channel 4} (h : Moves v w) {f : Channel → Channel} (hf : ∀ r, LegalMove r (f r)) :
    Moves v (w.map f) := by
  intro d
  have mapped : (w.map f)[d] = f w[d] := Vector.getElem_map ..
  rw [mapped]
  exact (h d).trans (hf _)

/-- The state's channel records have come from v by legal moves. -/
def Moved (v : Vector Channel 4) (s : State) : Prop := Moves v s.channels

theorem Moved.refl (s : State) : Moved s.channels s := fun c => .refl s.channels[c]

theorem Moved.ok {s t : State} (h : Moved s.channels t) (hs : ChannelsOk s) : ChannelsOk t := fun c => (h c).ok (hs c)

theorem moved_congr {v : Vector Channel 4} {s t : State} (e : t.channels = s.channels) : Moved v t ↔ Moved v s := by
  rw [Moved, Moved, e]

theorem HeatOnly.moved {v : Vector Channel 4} {s t : State} (h : HeatOnly s t) : Moved v t ↔ Moved v s := moved_congr h.channels

@[simp] theorem moved_ite (v : Vector Channel 4) (p : Prop) [Decidable p] (s t : State) :
    Moved v (if p then s else t) ↔ if p then Moved v s else Moved v t := by split <;> rfl

theorem Moved.modChan {v : Vector Channel 4} {s : State} (h : Moved v s) (c : Chan) {f : Channel → Channel}
    (hf : LegalMove s.channels[c] (f s.channels[c])) : Moved v (s.modChan c f) := Moves.upd h c hf

/-- A run over a list whose every turn makes legal moves. -/
theorem Moved.foldl {α : Type} {v : Vector Channel 4} {f : State → α → State} (h : ∀ s x, Moved v s → Moved v (f s x))
    (l : List α) {s : State} (hs : Moved v s) : Moved v (l.foldl f s) := by
  induction l generalizing s with
  | nil => exact hs
  | cons x l ih => exact ih (h s x hs)

/-- A run over a list whose every turn leaves the records. -/
theorem moved_foldl {α : Type} {v : Vector Channel 4} {f : State → α → State} (h : ∀ s x, Moved v (f s x) ↔ Moved v s)
    (l : List α) (s : State) : Moved v (l.foldl f s) ↔ Moved v s := by
  induction l generalizing s with
  | nil => rfl
  | cons x l ih => exact (ih _).trans (h s x)


/-! ## Operations that move no channel -/

section
variable (v : Vector Channel 4) (s : State)

@[simp] theorem moved_modRecog (f : Recog → Recog) : Moved v (s.modRecog f) ↔ Moved v s := moved_congr rfl
@[simp] theorem moved_modCo (f : Changeover → Changeover) : Moved v (s.modCo f) ↔ Moved v s := moved_congr rfl
@[simp] theorem moved_modScrape (f : Scrape → Scrape) : Moved v (s.modScrape f) ↔ Moved v s := moved_congr rfl
@[simp] theorem moved_modTakeover (f : Takeover → Takeover) : Moved v (s.modTakeover f) ↔ Moved v s := moved_congr rfl
@[simp] theorem moved_modRoof (f : Arbiter → Arbiter) : Moved v (s.modRoof f) ↔ Moved v s := moved_congr rfl
@[simp] theorem moved_modFwd (f : Forward → Forward) : Moved v (s.modFwd f) ↔ Moved v s := moved_congr rfl
@[simp] theorem moved_modTrain (f : Train → Train) : Moved v (s.modTrain f) ↔ Moved v s := moved_congr rfl
@[simp] theorem moved_modSettings (f : Settings → Settings) : Moved v (s.modSettings f) ↔ Moved v s := moved_congr rfl
@[simp] theorem moved_modPos (i : Pos) (f : PosRec → PosRec) : Moved v (s.modPos i f) ↔ Moved v s := moved_congr rfl
@[simp] theorem moved_modZone (i : Zone) (f : ZoneRec → ZoneRec) : Moved v (s.modZone i f) ↔ Moved v s := moved_congr rfl
@[simp] theorem moved_modNode (i : Node) (f : NodeRec → NodeRec) : Moved v (s.modNode i f) ↔ Moved v s := moved_congr rfl
@[simp] theorem moved_stagger (x : Option Nat) : Moved v { s with stagger := x } ↔ Moved v s := moved_congr rfl
@[simp] theorem moved_serial (n : Nat) : Moved v { s with serial := n } ↔ Moved v s := moved_congr rfl
@[simp] theorem moved_owed (l : List Owed) : Moved v { s with owed := l } ↔ Moved v s := moved_congr rfl
@[simp] theorem moved_announceRetry (x : Option Nat) : Moved v { s with announceRetry := x } ↔ Moved v s := moved_congr rfl
@[simp] theorem moved_queueNotice (d : NoticeData) : Moved v (queueNotice d s) ↔ Moved v s := moved_congr rfl
@[simp] theorem moved_addResponse (r : Response) : Moved v (addResponse r s) ↔ Moved v s := moved_congr rfl
@[simp] theorem moved_placeA (n : Node) (f : AFrame) : Moved v (placeA n f s) ↔ Moved v s := moved_congr rfl
@[simp] theorem moved_removeSustain (n : Node) : Moved v (removeSustain n s) ↔ Moved v s := moved_congr rfl
@[simp] theorem moved_clearSlotA (n : Node) : Moved v (clearSlotA n s) ↔ Moved v s := moved_congr rfl
@[simp] theorem moved_withdrawClose : Moved v (withdrawClose s) ↔ Moved v s := moved_congr rfl
@[simp] theorem moved_withdrawRaise (n : Node) : Moved v (withdrawRaise n s) ↔ Moved v s := moved_congr rfl
@[simp] theorem moved_startPhase (k : CoTimer) (ms : Nat) : Moved v (startPhase k ms s) ↔ Moved v s := moved_congr rfl
@[simp] theorem moved_stopPhase : Moved v (stopPhase s) ↔ Moved v s := moved_congr rfl
@[simp] theorem moved_dropQueuedClose : Moved v (dropQueuedClose s) ↔ Moved v s := moved_congr rfl
@[simp] theorem moved_switchSilent : Moved v (switchSilent s) ↔ Moved v s := moved_congr rfl
@[simp] theorem moved_emptySlot (n : Node) : Moved v (emptySlot n s) ↔ Moved v s := moved_congr rfl
@[simp] theorem moved_discardCommand : Moved v (discardCommand s) ↔ Moved v s := moved_congr rfl
@[simp] theorem moved_trainFrameTaken : Moved v (trainFrameTaken s) ↔ Moved v s := moved_congr rfl
@[simp] theorem moved_discardRequest : Moved v (discardRequest s) ↔ Moved v s := moved_congr rfl
@[simp] theorem moved_trainCheckFailed (k : FrameFailure) : Moved v (trainCheckFailed k s) ↔ Moved v s := moved_congr rfl
@[simp] theorem moved_roofCheckFailed (k : FrameFailure) : Moved v (roofCheckFailed k s) ↔ Moved v s := moved_congr rfl
@[simp] theorem moved_requestAsserted : Moved v (requestAsserted s) ↔ Moved v s := moved_congr rfl

@[simp] theorem moved_placeB (n : Node) (c : BCmd) : Moved v (placeB n c s) ↔ Moved v s := moved_congr (channels_placeB ..)

@[simp] theorem moved_placeForRole (r : Role) (c : BCmd) : Moved v (placeForRole r c s) ↔ Moved v s := by
  unfold placeForRole; split
  · exact moved_placeB ..
  · exact moved_congr rfl

@[simp] theorem moved_placeABreaker (f : AFrame) : Moved v (placeABreaker f s) ↔ Moved v s := by
  unfold placeABreaker; split <;> exact moved_congr rfl

@[simp] theorem moved_placeAnnounce (n : Node) : Moved v (placeAnnounce n s) ↔ Moved v s := by
  unfold placeAnnounce; split <;> exact moved_congr rfl

@[simp] theorem moved_announceAbsent : Moved v (announceAbsent s) ↔ Moved v s := moved_congr (channels_announceAbsent s)

@[simp] theorem moved_placeHeatOff (z : Zone) : Moved v (placeHeatOff z s) ↔ Moved v s := (HeatOnly.heatOff z s).moved

@[simp] theorem moved_placeHeatOffUnlessMismatch (z : Zone) : Moved v (placeHeatOffUnlessMismatch z s) ↔ Moved v s :=
  (HeatOnly.heatOffUnlessMismatch z s).moved

@[simp] theorem moved_heat (z : Zone) : Moved v (heat z s) ↔ Moved v s := (HeatOnly.heat z s).moved

@[simp] theorem moved_startZone (z : Zone) : Moved v (startZone z s) ↔ Moved v s := (HeatOnly.startZone z s).moved

@[simp] theorem moved_pauseZone (z : Zone) : Moved v (pauseZone z s) ↔ Moved v s := (HeatOnly.pauseZone z s).moved

@[simp] theorem moved_startDecisionBut (but : Option Zone) : Moved v (startDecisionBut but s) ↔ Moved v s :=
  (HeatOnly.startDecisionBut but s).moved

@[simp] theorem moved_startDecision : Moved v (startDecision s) ↔ Moved v s := (HeatOnly.startDecision s).moved

@[simp] theorem moved_gateChange (was : Bool) : Moved v (gateChange was s) ↔ Moved v s := (HeatOnly.gateChange was s).moved

@[simp] theorem moved_passDue (z : Zone) : Moved v (passDue z s) ↔ Moved v s := by
  simp [passDue, iceNotice]

@[simp] theorem moved_passComplete (z : Zone) : Moved v (passComplete z s) ↔ Moved v s := by simp [passComplete]

@[simp] theorem moved_contactorFailure (z : Zone) (kind : ZoneFailure) : Moved v (contactorFailure z kind s) ↔ Moved v s := by
  simp [contactorFailure]

@[simp] theorem moved_contactorReport (z : Zone) (p : ContactorPos) : Moved v (contactorReport z p s) ↔ Moved v s := by
  cases p <;> simp [contactorReport]

@[simp] theorem moved_contactorLost (n : Node) (kind : ZoneFailure) : Moved v (contactorLost n kind s) ↔ Moved v s := by
  unfold contactorLost; split <;> simp

@[simp] theorem moved_contactorPresence (n : Node) : Moved v (contactorPresence n s) ↔ Moved v s := by
  unfold contactorPresence; split <;> simp

@[simp] theorem moved_endRun (why : EndReason) : Moved v (endRun why s) ↔ Moved v s := (HeatOnly.endRun why s).moved

@[simp] theorem moved_forceStrip (strip : Option Zone) : Moved v (forceStrip strip s) ↔ Moved v s :=
  moved_congr (channels_forceStrip ..)

@[simp] theorem moved_scrapeOnChannel (c : Chan) (old new : ChanState) : Moved v (scrapeOnChannel c old new s) ↔ Moved v s :=
  moved_congr (channels_scrapeOnChannel ..)

@[simp] theorem moved_placeAChan (c : Chan) (f : AFrame) : Moved v (placeAChan c f s) ↔ Moved v s :=
  moved_congr (channels_placeAChan ..)

@[simp] theorem moved_removeSustainChan (c : Chan) : Moved v (removeSustainChan c s) ↔ Moved v s :=
  moved_congr (channels_removeSustainChan ..)

@[simp] theorem moved_withdrawRaiseChan (c : Chan) : Moved v (withdrawRaiseChan c s) ↔ Moved v s :=
  moved_congr (channels_withdrawRaiseChan ..)

@[simp] theorem moved_placeRaise (c : Chan) : Moved v (placeRaise c s) ↔ Moved v s := moved_congr (channels_placeRaise ..)

@[simp] theorem moved_faultNotice (c : Chan) (f : ChanFault) (st : ChanState) (cause : Option LowerCause) (n l : Nat) :
    Moved v (faultNotice c f st cause n l s) ↔ Moved v s := moved_congr (channels_faultNotice ..)

@[simp] theorem moved_setCo (st : CoState) : Moved v (setCo st s) ↔ Moved v s := (setCo_heatOnly st s).moved

@[simp] theorem moved_openRepOn : Moved v (openRepOn s) ↔ Moved v s := by simp [openRepOn]

@[simp] theorem moved_breakerSustainOff : Moved v (breakerSustainOff s) ↔ Moved v s := by
  simp only [breakerSustainOff]; split <;> exact moved_congr rfl

@[simp] theorem moved_closeDeparted : Moved v (closeDeparted s) ↔ Moved v s := by simp [closeDeparted]

@[simp] theorem moved_enterOpening (plan : Plan) : Moved v (enterOpening plan s) ↔ Moved v s := by simp [enterOpening]

@[simp] theorem moved_awaitSwitch : Moved v (awaitSwitch s) ↔ Moved v s := by
  simp only [awaitSwitch]; split <;> simp

@[simp] theorem moved_admitClose : Moved v (admitClose s) ↔ Moved v s := by simp [admitClose]

@[simp] theorem moved_neutralEntry : Moved v (neutralEntry s) ↔ Moved v s := by simp [neutralEntry]

@[simp] theorem moved_countTrip (kind : TripKind) : Moved v (countTrip kind s) ↔ Moved v s := by simp [countTrip]

@[simp] theorem moved_enterPowered : Moved v (enterPowered s) ↔ Moved v s := by simp [enterPowered]

@[simp] theorem moved_offerMirror (m : MirrorCopy) : Moved v (offerMirror m s) ↔ Moved v s := by
  simp only [offerMirror, takeCopy]; split
  · exact moved_congr rfl
  · split
    · split <;> exact moved_congr rfl
    · exact moved_congr rfl

@[simp] theorem moved_mirrorFrame (n : Node) (q : Byte) (f : RoofFrame) : Moved v (mirrorFrame n q f s) ↔ Moved v s := by
  unfold mirrorFrame; split <;> simp

@[simp] theorem moved_decideCommand (n : Node) (q c : Byte) (p : List Word) :
    Moved v (decideCommand n q c p s) ↔ Moved v s := by
  unfold decideCommand; split <;> simp

@[simp] theorem moved_noteHeld (r : Result) : Moved v (noteHeld r s) ↔ Moved v s := by
  unfold noteHeld; split <;> exact moved_congr rfl

@[simp] theorem moved_nodeCommandFrame (n : Node) (q c : Byte) (p : List Word) :
    Moved v (nodeCommandFrame n q c p s) ↔ Moved v s := by
  simp [nodeCommandFrame]

@[simp] theorem moved_grant : Moved v (grant s) ↔ Moved v s := by simp [grant]

@[simp] theorem moved_evaluateTakeover : Moved v (evaluateTakeover s) ↔ Moved v s := moved_congr (channels_evaluateTakeover s)

@[simp] theorem moved_takeoverAfter (was : State) : Moved v (takeoverAfter was s) ↔ Moved v s := by simp [takeoverAfter]

@[simp] theorem moved_tellDeparture (x : RoofItem) : Moved v (tellDeparture x s) ↔ Moved v s := by
  unfold tellDeparture
  split
  · split <;> simp
  all_goals exact moved_congr rfl

@[simp] theorem moved_roofPick : Moved v (roofPick s) ↔ Moved v s := by
  unfold roofPick
  split
  · exact moved_congr rfl
  · split <;> simp [sendRoof]

@[simp] theorem moved_trainPick : Moved v (trainPick s) ↔ Moved v s := by
  unfold trainPick
  split
  · exact moved_congr rfl
  · split
    · exact moved_congr rfl
    · split
      · exact moved_congr rfl
      · split <;> exact moved_congr rfl

@[simp] theorem moved_follows (was : State) : Moved v (follows was s) ↔ Moved v s := by simp [follows]

@[simp] theorem moved_completeTakeover : Moved v (completeTakeover s) ↔ Moved v s := by simp [completeTakeover]

@[simp] theorem moved_roofComplete : Moved v (roofComplete s) ↔ Moved v s := by
  unfold roofComplete; split <;> simp

@[simp] theorem moved_releaseGrant : Moved v (releaseGrant s) ↔ Moved v s := by simp [releaseGrant]

@[simp] theorem moved_requestDeasserted : Moved v (requestDeasserted s) ↔ Moved v s := by
  simp only [requestDeasserted]; split <;> simp

end

/-! ## Pantograph Control -/

theorem raised_iff (s : State) (c : Chan) : raised s c = true ↔ s.channels[c].state = .raising ∨ s.channels[c].state = .up := by
  simp [raised]

theorem not_locked_of_raised {s : State} {c : Chan} (h : raised s c = true) : s.channels[c].state ≠ .locked := by
  obtain e | e := (raised_iff s c).1 h <;> rw [e] <;> nofun

/-- What an entry to LOWERING leaves of the channel records. -/
theorem lowerCore_channels (c : Chan) (cause : LowerCause) (s : State) :
    (lowerCore c cause s).channels = upd s.channels c (loweringRecord cause s.settings.lowerWindow) := by
  simp [lowerCore]

section
variable {v : Vector Channel 4} {s : State} (h : Moved v s)
include h

theorem moved_lowerCore {c : Chan} (hc : s.channels[c].state ≠ .locked) (cause : LowerCause) :
    Moved v (lowerCore c cause s) := by
  simp only [lowerCore, moved_placeAChan, moved_withdrawRaiseChan]
  exact h.modChan c (.of_unlocked hc fun ok => channelOk_loweringRecord _ _ ok.counter)

theorem moved_enterLowering {c : Chan} (hc : s.channels[c].state ≠ .locked) (cause : LowerCause) :
    Moved v (enterLowering c cause s) := by
  rw [enterLowering, moved_scrapeOnChannel]
  exact moved_lowerCore h hc cause

theorem moved_faultLowering {c : Chan} (hc : s.channels[c].state ≠ .locked) (f : ChanFault) :
    Moved v (faultLowering c f s) := by
  simp only [faultLowering, moved_scrapeOnChannel, moved_faultNotice]
  exact moved_lowerCore (h.modChan c (.of_same rfl rfl rfl rfl)) (by rw [State.modChan_channels, upd_self]; exact hc) _

@[simp] theorem moved_lowerRequest (c : Chan) (cause : LowerCause) : Moved v (lowerRequest c cause s) := by
  unfold lowerRequest
  split
  case isTrue hr => exact moved_enterLowering h (not_locked_of_raised hr) cause
  case isFalse => exact h

@[simp] theorem moved_lowerAll (cause : LowerCause) : Moved v (lowerAll cause s) :=
  .foldl (fun _ c hs => moved_lowerRequest hs c cause) _ h

/-- A raise request that is admitted finds the channel DOWN (R27, R30). -/
theorem moved_raiseRequest (c : Chan) {d : Duty} (hd : d ≠ .noDuty) : Moved v (raiseRequest c d s) := by
  unfold raiseRequest
  split
  · exact h
  · split
    case isTrue k _ adm =>
      have down : s.channels[c].state = .down := by simp [raiseAdmitted, eligible] at adm; exact adm.2.1.1
      simp only [enterRaising, moved_placeAChan, moved_placeRaise]
      exact h.modChan c (.of_unlocked (by rw [down]; nofun) fun _ => channelOk_raisingRecord hd _ _ _ _)
    case isFalse => exact h

theorem moved_addLocks (c : Chan) : Moved v (addLocks c s) := by
  simp only [addLocks, moved_faultNotice]
  exact h.modChan c ⟨fun _ =>
    channelOk_restRecord (st := .locked) nofun nofun none { s.channels[c] with lastFault := .add }, fun _ => rfl⟩

theorem moved_lockOnAdd (c : Chan) : Moved v (lockOnAdd c s) := by
  simpa [lockOnAdd] using moved_addLocks h c

theorem moved_restRecord {c : Chan} (hc : s.channels[c].state ≠ .locked) {st : ChanState} (hr : st ≠ .raising) (hu : st ≠ .up)
    (p : Option (ChanTimer × Nat)) : Moved v (s.modChan c (restRecord st p)) :=
  h.modChan c (.of_unlocked hc fun _ => channelOk_restRecord hr hu p _)

theorem moved_dropToCooldown {c : Chan} (hc : s.channels[c].state ≠ .locked) : Moved v (dropToCooldown c s) := by
  simp only [dropToCooldown, moved_scrapeOnChannel, moved_faultNotice, moved_removeSustainChan]
  exact h.modChan c (.of_unlocked hc fun _ =>
    channelOk_restRecord (st := .cooldown) nofun nofun (some (.cooldown, s.settings.cooldown))
      { s.channels[c] with lastFault := .unexpectedDrop })

omit h in
theorem afterLowering_rests (r : Channel) : afterLowering r ≠ .raising ∧ afterLowering r ≠ .up := by
  unfold afterLowering
  split
  · split <;> simp
  · simp

theorem moved_endLowering {c : Chan} (hc : s.channels[c].state ≠ .locked) : Moved v (endLowering c s) := by
  exact moved_restRecord h hc (afterLowering_rests _).1 (afterLowering_rests _).2 _

theorem moved_lowerTimeout {c : Chan} (hc : s.channels[c].state = .lowering) : Moved v (lowerTimeout c s) := by
  simp only [lowerTimeout, moved_faultNotice]
  refine h.modChan c (.of_unlocked (by rw [hc]; nofun) fun ok => ⟨?_, ok.counter, by simp⟩)
  have := ok.duty
  simp_all

theorem moved_raiseComplete {c : Chan} (hc : s.channels[c].state = .raising) : Moved v (raiseComplete c s) := by
  simp only [raiseComplete, moved_scrapeOnChannel]
  refine h.modChan c (.of_unlocked (by rw [hc]; nofun) fun ok => ⟨?_, ok.counter, by simp⟩)
  have := ok.duty
  simp_all

theorem moved_startRun (c : Chan) (o : Origin) : Moved v (startRun c o s) := by
  simp only [startRun, moved_forceStrip]
  exact moved_raiseRequest ((moved_modScrape ..).2 h) c nofun

@[simp] theorem moved_autoScrape : Moved v (autoScrape s) := by
  unfold autoScrape
  split
  · exact h
  · exact moved_startRun h _ _

/-! ## The Power Path Controller -/

@[simp] theorem moved_schedulerLowers (was : State) : Moved v (schedulerLowers was s) := by
  unfold schedulerLowers; split <;> simp [h]

@[simp] theorem moved_enterIdle : Moved v (enterIdle s) := by simp [enterIdle, h]

@[simp] theorem moved_enterCoasting : Moved v (enterCoasting s) := by simp [enterCoasting, h]

@[simp] theorem moved_finishLowering : Moved v (finishLowering s) := by simp [finishLowering, h]

@[simp] theorem moved_lowerCollector (cause : LowerCause) : Moved v (lowerCollector cause s) := by
  unfold lowerCollector; split <;> simp [h]

@[simp] theorem moved_lowerScraper : Moved v (lowerScraper s) := by
  unfold lowerScraper; split <;> simp [h]

@[simp] theorem moved_enterCoLowering (plan : Plan) : Moved v (enterCoLowering plan s) := by
  simp only [enterCoLowering]
  generalize hs : schedulerLowers s _ = t
  have started : Moved v t := by rw [← hs]; simp [h]
  simp [started]

@[simp] theorem moved_enterLockout (cause : LockoutCause) : Moved v (enterLockout cause s) := by
  simp [enterLockout, h]

@[simp] theorem moved_lowerMisfits (k : SysId) : Moved v (lowerMisfits k s) :=
  .foldl (fun _ c hs => by simp [hs]) _ h

@[simp] theorem moved_changeoverTo (k : SysId) : Moved v (changeoverTo k s) := by simp [changeoverTo, h]

@[simp] theorem moved_enterPath (n : Nat) (e : Entry) : Moved v (enterPath n e s) := by
  induction n generalizing e s with
  | zero => exact h
  | succ n ih =>
    cases e with
    | switching => simp [enterPath_switching_entry, ih, h]
    | closing => simp [enterPath_closing_entry, ih, h]
    | neutral => rw [enterPath_neutral_entry]; split <;> simp [ih, h]

@[simp] theorem moved_enterSwitching : Moved v (enterSwitching s) := moved_enterPath h 5 _

@[simp] theorem moved_enterClosing : Moved v (enterClosing s) := moved_enterPath h 5 _

@[simp] theorem moved_enterNeutral : Moved v (enterNeutral s) := moved_enterPath h 5 _

@[simp] theorem moved_evaluateNeutral : Moved v (evaluateNeutral s) := by
  unfold evaluateNeutral; split <;> simp [h]

@[simp] theorem moved_startWith (k : SysId) (c : Chan) : Moved v (startWith k c s) := by
  simp only [startWith, moved_setCo]
  exact moved_raiseRequest ((moved_modCo ..).2 h) c nofun

@[simp] theorem moved_evaluateRecognizing (k : SysId) : Moved v (evaluateRecognizing k s) := by
  simp [evaluateRecognizing, h]

@[simp] theorem moved_enterRecognizing : Moved v (enterRecognizing s) := by
  simp only [enterRecognizing]; split <;> simp [h]

@[simp] theorem moved_noSubstitute : Moved v (noSubstitute s) := by simp [noSubstitute, h]

@[simp] theorem moved_substituteRaise : Moved v (substituteRaise s) := by
  simp only [substituteRaise]
  split
  · exact moved_noSubstitute h
  · split
    · rw [moved_setCo]; exact moved_raiseRequest (by simpa using h) _ nofun
    · exact moved_noSubstitute (by simpa using h)

@[simp] theorem moved_collectorLost : Moved v (collectorLost s) := by
  unfold collectorLost; split <;> simp [h]

@[simp] theorem moved_coOnChannel (c : Chan) (old new : ChanState) : Moved v (coOnChannel c old new s) := by
  simp [coOnChannel, h]

@[simp] theorem moved_coOnResult : Moved v (coOnResult s) := by
  unfold coOnResult
  split
  case h_1 => split <;> simp [h]
  all_goals simp [h]

@[simp] theorem moved_afterTrip : Moved v (afterTrip s) := by simp [afterTrip, h]

@[simp] theorem moved_carryOutPlan : Moved v (carryOutPlan s) := by
  simp only [carryOutPlan]; split <;> simp [h]

@[simp] theorem moved_breakerReport (p : BreakerPos) : Moved v (breakerReport p s) := by
  have recorded : Moved v (s.modCo (breakerRecord p)) := by simp [h]
  simp only [breakerReport]
  split
  · split
    · simp [recorded]
    · split <;> simp [recorded]
  · split
    · simp [recorded]
    · split <;> simp [recorded]
  · exact recorded

@[simp] theorem moved_switchWhileSwitching (shows : Bool) : Moved v (switchWhileSwitching shows s) := by
  simp only [switchWhileSwitching]
  split
  · split
    · split <;> simp [h]
    · exact h
  · simp [h]
  · exact h

@[simp] theorem moved_switchReport (p : Nat) : Moved v (switchReport p s) := by
  simp only [switchReport]; split <;> simp [h]

@[simp] theorem moved_breakerSilent : Moved v (breakerSilent s) := by
  simp only [breakerSilent]; split <;> simp [h]

@[simp] theorem moved_coNodeMismatch : Moved v (coNodeMismatch s) := by simp [coNodeMismatch, h]

@[simp] theorem moved_powerDown : Moved v (powerDown s) := by
  simp only [powerDown]
  split
  · exact h
  · split
    case h_5 => split <;> simp [h]
    all_goals simp [h]

@[simp] theorem moved_gradedCollector : Moved v (gradedCollector s) := by
  simp only [gradedCollector]
  split
  case h_2 | h_3 => split <;> simp [h]
  all_goals simp [h]

@[simp] theorem moved_switchOutcome (k : Nat) (o : CmdOutcome) : Moved v (switchOutcome k o s) := by
  simp [switchOutcome, h]

@[simp] theorem moved_closeOutcome (k : Nat) (o : CmdOutcome) : Moved v (closeOutcome k o s) := by
  simp [closeOutcome, h]

/-! ## What reaches a channel from outside -/

theorem moved_chanFault {c : Chan} (hc : s.channels[c].state ≠ .locked) (f : ChanFault) : Moved v (chanFault c f s) :=
  moved_coOnChannel (moved_faultLowering h hc f) c _ _

@[simp] theorem moved_lowerByOther (c : Chan) (cause : LowerCause) : Moved v (lowerByOther c cause s) := by
  unfold lowerByOther
  split
  case isTrue hr => exact moved_coOnChannel (moved_enterLowering h (not_locked_of_raised hr) cause) c _ _
  case isFalse => exact h

omit h in
/-- A raise request touches no channel that is not DOWN. -/
theorem raiseRequest_other {d : Chan} (hd : s.channels[d].state ≠ .down) (c : Chan) (duty : Duty) :
    (raiseRequest c duty s).channels[d] = s.channels[d] := by
  unfold raiseRequest
  split
  · rfl
  · split
    case isTrue k _ adm =>
      have down : s.channels[c].state = .down := by simp [raiseAdmitted, eligible] at adm; exact adm.2.1.1
      simp only [enterRaising, channels_placeAChan, channels_placeRaise, State.modChan_channels]
      exact upd_other _ _ fun e => hd (e ▸ down)
    case isFalse => rfl

omit h in
/-- An auto-scrape request touches no channel that is not DOWN. -/
theorem autoScrape_other {d : Chan} (hd : s.channels[d].state ≠ .down) : (autoScrape s).channels[d] = s.channels[d] := by
  unfold autoScrape
  split
  · rfl
  · simp only [startRun, channels_forceStrip]
    exact raiseRequest_other (s := s.modScrape _) hd _ _

omit h in
/-- ARC-WATCH, with the scrape run it may start, touches no channel that is not DOWN. -/
theorem arcWatch_other {d : Chan} (hd : s.channels[d].state ≠ .down) (c : Chan) (contact : Bool) (arc : Nat) :
    (arcWatch c contact arc s).channels[d] = s.channels[d] := by
  simp only [arcWatch]
  split
  · exact autoScrape_other (s := queueNotice _ s) hd
  · rfl

theorem moved_arcWatch (c : Chan) (contact : Bool) (arc : Nat) : Moved v (arcWatch c contact arc s) := by
  simp [arcWatch, h]

omit h in
theorem counterAfter_le (r : Channel) (hr : r.counter ≤ r.limit) (contact : Bool) (arc : Nat) :
    counterAfter r contact arc ≤ r.limit := by
  unfold counterAfter
  split
  · exact Nat.min_le_left ..
  · split
    · omega
    · exact Nat.min_le_left ..

theorem moved_superviseContact {c : Chan} (hc : s.channels[c].state = .up) (contact : Bool) (arc : Nat) :
    Moved v (superviseContact c contact arc s) := by
  simp only [superviseContact]
  generalize ht : s.modChan c _ = t
  have counted : Moved v t := ht ▸ h.modChan c (.of_unlocked (by rw [hc]; nofun) fun ok =>
    ⟨ok.duty, counterAfter_le _ ok.counter _ _, fun e => by rw [hc] at e; simp at e⟩)
  have up : t.channels[c].state = .up := by rw [← ht, State.modChan_channels, upd_self]; exact hc
  have still : (arcWatch c contact arc t).channels[c].state = .up := by rw [arcWatch_other (by rw [up]; nofun), up]
  split
  · split <;> split
    · exact moved_chanFault (moved_arcWatch counted c _ _) (by rw [still]; nofun) _
    · exact moved_chanFault counted (by rw [up]; nofun) _
    · exact moved_arcWatch counted c _ _
    · exact counted
  · exact counted

theorem moved_loweringEnds {c : Chan} (hc : s.channels[c].state ≠ .locked) : Moved v (loweringEnds c s) :=
  moved_coOnChannel (moved_endLowering h hc) c _ _

@[simp] theorem moved_addReport (c : Chan) (pos : PanPos) : Moved v (addReport c pos s) := by
  simp only [addReport]
  split
  case h_1 hc | h_2 hc =>
    split
    · exact moved_coOnChannel (moved_lockOnAdd h c) _ _ _
    · exact moved_chanFault h (by rw [hc]; nofun) _
  case h_3 hc =>
    generalize ht : faultNotice c .add .lowering (some .fault) _ _ _ = t
    have noted : Moved v t := by rw [← ht, moved_faultNotice]; exact h.modChan c (.of_same rfl rfl rfl rfl)
    have lowering : t.channels[c].state = .lowering := by
      rw [← ht, channels_faultNotice, State.modChan_channels, upd_self]; exact hc
    split
    · exact moved_loweringEnds noted (by rw [lowering]; nofun)
    · exact noted
  case h_4 | h_5 => exact moved_addLocks h c
  case h_6 =>
    rw [moved_faultNotice]
    exact h.modChan c (.of_same rfl rfl rfl rfl)

@[simp] theorem moved_plainReport (c : Chan) (pos : PanPos) (contact : Bool) (arc : Nat) :
    Moved v (plainReport c pos contact arc s) := by
  unfold plainReport
  split
  case h_1 hc =>
    split
    · exact moved_coOnChannel (moved_raiseComplete h hc) _ _ _
    · exact h
  case h_2 hc =>
    split
    · exact moved_coOnChannel (moved_dropToCooldown h (by rw [hc]; nofun)) _ _ _
    · exact moved_superviseContact h hc _ _
  case h_3 hc =>
    split
    · exact moved_loweringEnds h (by rw [hc]; nofun)
    · exact h
  all_goals exact h

@[simp] theorem moved_contactReport (p : Pos) (pos : PanPos) (contact add : Bool) (arc : Nat) :
    Moved v (contactReport p pos contact add arc s) := by
  simp only [contactReport]; split <;> simp [h]

theorem moved_lowerWindowExpired {c : Chan} (hc : s.channels[c].state = .lowering) :
    Moved v (lowerWindowExpired c s) :=
  moved_enterLockout (moved_lowerTimeout h hc) _

@[simp] theorem moved_raiseOutcome (c : Chan) (k : Nat) (o : CmdOutcome) : Moved v (raiseOutcome c k o s) := by
  unfold raiseOutcome
  split
  case isTrue hc => exact moved_chanFault h (by obtain ⟨_, e | ⟨e, _⟩⟩ := hc <;> rw [e] <;> nofun) _
  case isFalse => exact h

@[simp] theorem moved_pantographPresence (n : Node) : Moved v (pantographPresence n s) := by
  unfold pantographPresence
  split
  · exact h
  · split
    case isTrue hr =>
      split
      case h_1 | h_2 => exact moved_chanFault h (not_locked_of_raised hr) _
      all_goals exact h
    case isFalse => exact h

/-! ## The Node Roster -/

@[simp] theorem moved_deliverPart (c : BCmd) (k : Nat) (o : CmdOutcome) : Moved v (deliverPart c k o s) := by
  cases c with
  | heatOn z => cases o <;> simp [deliverPart, h]
  | _ => simp [deliverPart, h]

@[simp] theorem moved_presenceHandOn (n : Node) : Moved v (presenceHandOn n s) := by
  unfold presenceHandOn
  split
  case h_3 | h_4 => split <;> simp [h]
  all_goals simp [h]

@[simp] theorem moved_setPresence (n : Node) (p : Presence) : Moved v (setPresence n p s) := by
  simp [setPresence, h]

@[simp] theorem moved_removeForMismatch (n : Node) : Moved v (removeForMismatch n s) := by
  simp only [removeForMismatch]
  rw [moved_foldl fun s e => moved_addResponse v s _]
  exact .foldl (fun _ e hs => moved_deliverPart hs _ _ _) _ (by exact h)

@[simp] theorem moved_enterMismatch (n : Node) : Moved v (enterMismatch n s) := by simp [enterMismatch, h]

@[simp] theorem moved_becomePresent (n : Node) : Moved v (becomePresent n s) := by simp [becomePresent, h]

@[simp] theorem moved_judge (n : Node) (fresh : Bool) : Moved v (judge n fresh s) := by
  unfold judge
  split
  · split <;> simp [h]
  · simp [h]

@[simp] theorem moved_announceReport (n : Node) (role cls : Word) : Moved v (announceReport n role cls s) := by
  simp [announceReport, h]

@[simp] theorem moved_rejudge (n : Node) : Moved v (rejudge n s) := by simp [rejudge, h]

@[simp] theorem moved_nodeSilenced (n : Node) : Moved v (nodeSilenced n s) := by simp [nodeSilenced, h]

@[simp] theorem moved_deliver (o : Outstanding) (out : CmdOutcome) (data : List Word) :
    Moved v (deliver o out data s) := by
  unfold deliver; split <;> simp [h]

@[simp] theorem moved_ackReport (n : Node) (q : Byte) (p : List Word) : Moved v (ackReport n q p s) := by
  unfold ackReport; split <;> simp [h]

@[simp] theorem moved_ackTimeout (n : Node) : Moved v (ackTimeout n s) := by
  unfold ackTimeout; split <;> simp [h]

@[simp] theorem moved_restartAge (n : Node) : Moved v (restartAge n s) := by simp [restartAge, h]

@[simp] theorem moved_deliverReport (n : Node) (r : Report) : Moved v (deliverReport n r s) := by
  cases r with
  | contact | contactor => simp only [deliverReport]; split <;> simp [h]
  | _ => simp [deliverReport, h]

/-! ## Line Measurement and Recognition -/

@[simp] theorem moved_changeResult (w : LineResult) : Moved v (changeResult w s) := by simp [changeResult, h]

@[simp] theorem moved_takeSample (w : Word) : Moved v (takeSample s w) := by
  simp [takeSample, completeWindow, confirmResult, h]

@[simp] theorem moved_sampleDelivered (n : Node) (q : Byte) (p : List Word) : Moved v (sampleDelivered n q p s) := by
  unfold sampleDelivered
  split
  · exact .foldl (fun _ w hs => moved_takeSample hs w) p (by exact h)
  · exact h

@[simp] theorem moved_sampleTimeoutExpired : Moved v (sampleTimeoutExpired s) := by
  simp only [sampleTimeoutExpired]
  split
  · split <;> simp [h]
  · exact h

@[simp] theorem moved_deliverFrame (n : Node) (q : Byte) (f : RoofFrame) : Moved v (deliverFrame n q f s) := by
  cases f with
  | report code p holds => cases holds <;> simp [deliverFrame, h]
  | _ => simp [deliverFrame, h]

@[simp] theorem moved_takeRoofFrame (n : Node) (q : Byte) (f : RoofFrame) : Moved v (takeRoofFrame n q f s) := by
  simp only [takeRoofFrame, unconfiguredFrame, mismatchFrame]
  split
  · split <;> simp [h]
  · split
    · split <;> simp [h]
    · simp [h]

/-! ## What follows every command -/

@[simp] theorem moved_payOne : Moved v (payOne s) := by
  unfold payOne; split <;> simp [h]

@[simp] theorem moved_payOwed (n : Nat) : Moved v (payOwed n s) := by
  induction n generalizing s with
  | zero => exact h
  | succ n ih => simp [payOwed, ih, h]

@[simp] theorem moved_settle (was : State) : Moved v (settle was s) := by
  simp [settle, drain, h]

/-! ## Loads and clears -/

theorem moved_rejudgeOld (old now : Option Node) : Moved v (rejudgeOld old now s) := by
  unfold rejudgeOld; split <;> simp [h]

theorem moved_loadSystem (entry : List Word) : Moved v (loadSystem entry s).state := by
  unfold loadSystem
  split
  · split
    · exact h
    · split
      · unfold storeSystem
        split
        · exact h
        · split <;> exact h
      · exact h
  · exact h

theorem moved_loadWindow (entry : List Word) : Moved v (loadWindow entry s).state := by
  unfold loadWindow
  split
  · split
    · exact h
    · split
      · unfold storeWindow
        split
        · exact h
        · split <;> exact h
      · exact h
  · exact h

theorem moved_loadInterlock (entry : List Word) : Moved v (loadInterlock entry s).state := by
  unfold loadInterlock
  split
  · split
    · exact h
    · split
      · unfold storeInterlock
        split <;> exact h
      · exact h
  · exact h

theorem moved_admitPosition (p : Pos) (a : PosAssign) : Moved v (admitPosition p a s).state := by
  unfold admitPosition
  split
  · exact h
  · split
    · exact h
    · exact moved_rejudgeOld (moved_rejudge (by exact h) _) _ _

theorem moved_loadPosition (entry : List Word) : Moved v (loadPosition entry s).state := by
  unfold loadPosition
  split
  · split
    · exact h
    · split
      · exact moved_admitPosition h _ _
      · exact h
  · exact h

theorem moved_clearSlot {n : Nat} (key : List Word) {clear : Fin n → State} (hc : ∀ i, Moved v (clear i)) :
    Moved v (clearSlot key s clear).state := by
  unfold clearSlot
  split
  · split
    · exact h
    · split
      · exact hc _
      · exact h
  · exact h

theorem moved_clearSystem (key : List Word) : Moved v (clearSystem key s).state := moved_clearSlot h key fun _ => h

theorem moved_clearWindow (key : List Word) : Moved v (clearWindow key s).state := moved_clearSlot h key fun _ => h

theorem moved_clearInterlock (key : List Word) : Moved v (clearInterlock key s).state := moved_clearSlot h key fun _ => h

theorem moved_clearPosition (key : List Word) : Moved v (clearPosition key s).state :=
  moved_clearSlot h key fun p => moved_rejudgeOld (s := s.modPos p fun _ => {}) h _ _

theorem moved_loadNode (entry : List Word) : Moved v (loadNode entry s).state := by
  unfold loadNode
  split
  · split
    · exact h
    · split
      · unfold admitNode
        split
        · exact h
        · split
          · exact h
          · simp [storeNode, loadPresence, h]
      · exact h
  · exact h

theorem moved_clearNode (key : List Word) : Moved v (clearNode key s).state := by
  unfold clearNode
  split
  · split
    · exact h
    · split
      · split <;> exact h
      · exact h
  · exact h

theorem moved_loadZone (entry : List Word) : Moved v (loadZone entry s).state := by
  unfold loadZone
  split
  · split
    · unfold admitZone
      split
      · exact h
      · split
        · exact h
        · split
          · exact h
          · simp [storeZone, h]
    · exact h
  · exact h

theorem moved_clearZone (key : List Word) : Moved v (clearZone key s).state := by
  unfold clearZone
  split
  · split
    · split
      · exact h
      · simp [dropZone, h]
    · exact h
  · exact h

omit h in
/-- A new contact-loss setting clears the counter of an UP channel, and a RAISING one has it clear (R31, R36). -/
theorem newContactLoss_legal (l : Nat) (r : Channel) : LegalMove r (newContactLoss l r) := by
  unfold newContactLoss
  split
  case h_1 e => exact ⟨fun ok => ⟨ok.duty, by simp [ok.clear (.inr e)], ok.clear⟩, id⟩
  case h_2 e => exact ⟨fun ok => ⟨ok.duty, Nat.zero_le _, fun _ => rfl⟩, id⟩
  all_goals exact .refl r

theorem moved_setConfig (i : ConfigItem) (c : Option Chan) (x : Nat) : Moved v (setConfig i c x s) := by
  unfold setConfig
  split
  · exact h.upd _ (.of_same rfl rfl rfl rfl)
  · exact h.map (newContactLoss_legal _)
  · exact h

theorem moved_loadConfig (entry : List Word) : Moved v (loadConfig entry s).state := by
  unfold loadConfig
  split
  · split
    · exact h
    · split
      · exact h
      · exact moved_setConfig h _ _ _
  · exact h

theorem moved_clearConfig (key : List Word) : Moved v (clearConfig key s).state := by
  unfold clearConfig
  split
  · split
    · exact h
    · exact moved_setConfig h _ _ _
  · exact h

/-! ## The orders -/

theorem moved_startFor (k : SysId) : Moved v (startFor k s).state := by
  unfold startFor; split
  · exact h
  · exact moved_startWith h _ _

theorem moved_powerUpOrder (k : SysId) : Moved v (powerUpOrder k s).state := by
  unfold powerUpOrder
  split
  case h_1 | h_2 => exact moved_startFor h k
  case h_3 => simp [reclose, reorderInNeutral, h]
  case h_4 => simp [leaveFor, h]
  case h_11 => exact h
  all_goals unfold whileBusy; split <;> exact h

theorem moved_changeoverOrder (k : SysId) : Moved v (changeoverOrder k s).state := by
  unfold changeoverOrder
  split
  case h_1 => exact moved_startFor h k
  case h_2 | h_11 => exact h
  case h_3 => simp [reorderInNeutral, h]
  case h_4 => simp [leaveFor, h]
  all_goals unfold whileBusy; split <;> exact h

theorem moved_neutralAheadOrder : Moved v (neutralAheadOrder s).state := by
  unfold neutralAheadOrder; split <;> simp [refuse, accept, h]

theorem moved_sectionClearOrder : Moved v (sectionClearOrder s).state := by
  unfold sectionClearOrder
  split
  · split
    · exact moved_startFor h _
    · exact h
  all_goals exact h

/-- An order that may be refused with HELD makes legal moves where the order does. -/
theorem moved_heldOr {order : State → Reply} (ho : Moved v (order s).state) : Moved v (heldOr order s).state := by
  unfold heldOr; split
  · exact h
  · exact ho

theorem moved_systemOrder {order : SysId → State → Reply} (ho : ∀ k, Moved v (order k s).state) (p : List Word) :
    Moved v (systemOrder order p s).state := by
  unfold systemOrder
  split
  · exact h
  · split
    · exact h
    · split
      · exact h
      · exact moved_heldOr h (ho _)

theorem moved_clearLockoutOrder : Moved v (clearLockoutOrder s).state := by
  unfold clearLockoutOrder
  split
  · exact h
  · split
    · exact h
    · simp [h]

theorem moved_loweringOrderReply (p : List Word) : Moved v (loweringOrderReply p s).state := by
  have others (l : List Chan) : Moved v (l.foldl (fun t c => lowerByOther c .graded t) s) :=
    .foldl (fun _ c hs => moved_lowerByOther hs c .graded) _ h
  unfold loweringOrderReply
  split
  · exact h
  · split
    · simp [gradedLowering, others]
    · exact h

theorem moved_channelOrder {act : Chan → State → Reply} (ha : ∀ c, Moved v (act c s).state) (p : List Word) :
    Moved v (channelOrder act p s).state := by
  unfold channelOrder
  split
  · exact h
  · split
    · exact h
    · exact ha _

theorem moved_channelLowerOrder (c : Chan) : Moved v (channelLowerOrder c s).state := by
  unfold channelLowerOrder
  split
  · exact h
  · split
    · exact h
    · split
      · simp [h]
      · exact h

theorem moved_remapOrder (p : List Word) : Moved v (remapOrder p s).state := by
  unfold remapOrder
  split
  · split
    · split
      · exact h
      · split <;> exact h
    · exact h
  · exact h

theorem moved_endRunAndLower (why : EndReason) : Moved v (endRunAndLower why s) := by
  unfold endRunAndLower; split <;> simp [h]

theorem moved_iceSeasonOrder (p : List Word) : Moved v (iceSeasonOrder p s).state := by
  unfold iceSeasonOrder
  split
  · exact h
  · split
    · exact h
    · simp only [accept_state, setSeason]
      split
      · exact h
      · split
        · exact h
        · exact moved_endRunAndLower (by exact h) _

theorem moved_scrapeOrder : Moved v (scrapeOrder s).state := by
  unfold scrapeOrder
  split
  · exact h
  · split
    · exact h
    · split
      · exact h
      · exact moved_startRun h _ _

theorem moved_depotAccessOrder (p : List Word) : Moved v (depotAccessOrder p s).state := by
  unfold depotAccessOrder
  split
  · exact h
  · split <;> exact h

theorem moved_noticeFilterOrder (p : List Word) : Moved v (noticeFilterOrder p s).state := by
  unfold noticeFilterOrder
  split
  · split
    · split <;> exact h
    · exact h
  · exact h

theorem moved_partResetOrder : Moved v (partResetOrder s).state := by
  unfold partResetOrder; split <;> exact h

/-! ## Expiries and the clock -/

theorem moved_expireCooldown (c : Chan) : Moved v (expireCooldown c s) := by
  unfold expireCooldown
  split
  case isTrue hc => exact moved_coOnChannel (moved_restRecord h (st := .down) (by rw [hc.1]; nofun) nofun nofun none) c _ _
  case isFalse => exact h

theorem moved_expireRaiseWindow (c : Chan) : Moved v (expireRaiseWindow c s) := by
  unfold expireRaiseWindow
  split
  case isTrue hc => exact moved_chanFault h (by rw [hc.1]; nofun) _
  case isFalse => exact h

theorem moved_expireLowerWindow (c : Chan) : Moved v (expireLowerWindow c s) := by
  unfold expireLowerWindow
  split
  case isTrue hc => exact moved_lowerWindowExpired h hc.1
  case isFalse => exact h

theorem moved_expireLowerRep (c : Chan) : Moved v (expireLowerRep c s) := by
  unfold expireLowerRep
  split
  · rw [moved_placeAChan]; exact h.modChan c (.of_same rfl rfl rfl rfl)
  · exact h

theorem moved_expireChanSustain (c : Chan) : Moved v (expireChanSustain c s) := by
  unfold expireChanSustain
  split
  · rw [moved_placeAChan]; exact h.modChan c (.of_same rfl rfl rfl rfl)
  · exact h

theorem moved_expireSilence : Moved v (expireSilence s) := by
  simp only [expireSilence]; split
  · exact h
  · exact moved_powerDown (by exact h)

theorem moved_advance : Moved v (advance s) := h.map fun _ => .of_same rfl rfl rfl rfl

end

/-! ## CHANNEL-RESET and part reset -/

/-- A change of one record that leaves it legal. -/
theorem ChannelsOk.modChan {s : State} (h : ChannelsOk s) (c : Chan) {f : Channel → Channel}
    (hf : ChannelOk s.channels[c] → ChannelOk (f s.channels[c])) : ChannelsOk (s.modChan c f) := by
  intro d
  rw [State.modChan_channels, upd_get]
  split
  case isTrue e => subst e; exact hf (h c)
  case isFalse => exact h d

theorem ChannelsOk.congr {s t : State} (h : ChannelsOk s) (e : t.channels = s.channels) : ChannelsOk t := fun c => e ▸ h c

theorem ChannelsOk.coOnChannel {s : State} (h : ChannelsOk s) (c : Chan) (old new : ChanState) :
    ChannelsOk (coOnChannel c old new s) := (moved_coOnChannel (.refl s) c old new).ok h

theorem becomeDown_ok {s : State} (h : ChannelsOk s) (c : Chan) : ChannelsOk (becomeDown c s) :=
  (h.modChan c fun _ => channelOk_restRecord (st := .down) nofun nofun none _).coOnChannel c _ _

theorem enterLowering_ok {s : State} (h : ChannelsOk s) (c : Chan) (cause : LowerCause) : ChannelsOk (enterLowering c cause s) :=
  (h.modChan c fun ok => channelOk_loweringRecord cause _ ok.counter).congr
    ((channels_scrapeOnChannel ..).trans (lowerCore_channels ..))

theorem moved_resetCore (c : Chan) (s : State) : Moved s.channels (resetCore c s) := by
  have cleared : Moved s.channels (s.modChan c fun r => { r with counter := 0, lastFault := .noFault }) :=
    (Moved.refl s).modChan c ⟨fun ok => ⟨ok.duty, Nat.zero_le _, fun _ => rfl⟩, id⟩
  simp only [resetCore]
  split
  · exact cleared
  · simpa using cleared

theorem resetChannel_ok {s : State} (h : ChannelsOk s) (c : Chan) : ChannelsOk (resetChannel c s) := by
  have core : ChannelsOk (resetCore c s) := (moved_resetCore c s).ok h
  simp only [resetChannel]
  split
  case h_1 | h_2 => exact (moved_lowerByOther (.refl _) c .reset).ok core
  case h_3 => exact core.modChan c fun ok => ⟨ok.duty, ok.counter, ok.clear⟩
  case h_4 => exact becomeDown_ok core c
  case h_5 =>
    split
    · exact (enterLowering_ok core c .reset).coOnChannel c _ _
    · exact becomeDown_ok core c
  case h_6 => exact core

theorem channelResetOrder_ok {s : State} (h : ChannelsOk s) (c : Chan) : ChannelsOk (channelResetOrder c s).state := by
  unfold channelResetOrder
  split
  · exact h
  · split
    · exact h
    · exact resetChannel_ok h c

/-- A channel's record after a part reset, for a bound channel or an unbound one, with the lower window w (R49). -/
def partResetRecord (bound : Bool) (w : Nat) (r : Channel) : Channel :=
  match r.state with
  | .down => r
  | .raising | .up | .lowering => loweringRecord .reset w (resetChanRecord r)
  | .cooldown | .locked =>
    if bound then loweringRecord .reset w (resetChanRecord r) else { restRecord .down none r with lastFault := .reset }

theorem partResetRecord_ok (bound : Bool) (w : Nat) {r : Channel} (h : ChannelOk r) : ChannelOk (partResetRecord bound w r) := by
  have lowered : ChannelOk (loweringRecord .reset w (resetChanRecord r)) := channelOk_loweringRecord _ _ (Nat.zero_le _)
  unfold partResetRecord
  split
  · exact h
  · exact lowered
  · exact lowered
  · exact lowered
  all_goals
    split
    · exact lowered
    · exact channelOk_restRecord (st := .down) nofun nofun none { r with lastFault := .reset }

theorem upd_upd {α : Type} {n : Nat} (v : Vector α n) (i : Fin n) (f g : α → α) : upd (upd v i f) i g = upd v i (g ∘ f) := by
  simp [upd]

theorem upd_congr {α : Type} {n : Nat} {v : Vector α n} {i : Fin n} {f g : α → α} (h : f v[i] = g v[i]) :
    upd v i f = upd v i g := by
  rw [upd, upd, h]

theorem upd_id {α : Type} {n : Nat} (v : Vector α n) (i : Fin n) : upd v i id = v := by simp [upd]

theorem resetIntoLowering_channels (c : Chan) (s : State) : (resetIntoLowering c s).channels =
    upd s.channels c fun r => loweringRecord .reset s.settings.lowerWindow (resetChanRecord r) := by
  simp only [resetIntoLowering, channels_faultNotice, lowerCore_channels, State.modChan_channels, upd_upd]
  rfl

theorem resetIntoDown_channels (c : Chan) (s : State) : (resetIntoDown c s).channels =
    upd s.channels c fun r => { restRecord .down none r with lastFault := .reset } := by
  simp only [resetIntoDown, channels_faultNotice, State.modChan_channels]

theorem resetChan_channels (s : State) (c : Chan) :
    (resetChan s c).channels = upd s.channels c (partResetRecord (bound s c) s.settings.lowerWindow) := by
  unfold resetChan
  split
  case h_1 e => exact (upd_id ..).symm.trans (upd_congr (by simp only [partResetRecord, e, id]))
  case h_2 e | h_3 e | h_4 e =>
    rw [resetIntoLowering_channels]; exact upd_congr (by simp only [partResetRecord, e])
  case h_5 e | h_6 e =>
    split
    case isTrue b => rw [resetIntoLowering_channels]; exact upd_congr (by simp only [partResetRecord, e, b, if_true])
    case isFalse b => rw [resetIntoDown_channels]; exact upd_congr (by simp only [partResetRecord, e, b, if_false, Bool.false_eq_true])

theorem bound_congr {s t : State} (e : t.config = s.config) (c : Chan) : bound t c = bound s c := by
  have same := sameConfiguration_of_config e
  simp only [bound, assignOf, posOf, same.roleMap, same.positions]

/-- A part reset of some channels reaches each of them once, and no other. -/
theorem resetChan_foldl (l : List Chan) (hl : l.Nodup) (s : State) (c : Chan) : (l.foldl resetChan s).channels[c] =
    if c ∈ l then partResetRecord (bound s c) s.settings.lowerWindow s.channels[c] else s.channels[c] := by
  induction l generalizing s with
  | nil => rfl
  | cons d l ih =>
    have same := sameConfiguration_of_config (config_resetChan s d)
    rw [List.foldl_cons, ih (List.nodup_cons.1 hl).2, bound_congr (config_resetChan s d), same.settings, resetChan_channels,
      upd_get]
    by_cases e : d = c
    · subst e; rw [if_neg (List.nodup_cons.1 hl).1, if_pos rfl, if_pos (List.mem_cons_self ..)]
    · simp only [if_neg e, List.mem_cons, Ne.symm e, false_or]

theorem resetChannels_channels (s : State) (c : Chan) :
    (resetChannels s).channels[c] = partResetRecord (bound s c) s.settings.lowerWindow s.channels[c] := by
  rw [resetChannels, resetChan_foldl _ (List.nodup_finRange 4), if_pos (List.mem_finRange c)]

theorem channels_resetHeatOff (s : State) (z : Zone) : (resetHeatOff s z).channels = s.channels := by
  unfold resetHeatOff
  split
  · exact (HeatOnly.heatOffUnlessMismatch z s).channels
  · rfl

theorem channels_resetScheduler (s : State) : (resetScheduler s).channels = s.channels := by
  simp only [resetScheduler]
  rw [channels_foldl channels_resetHeatOff]
  rfl

theorem channels_endOfReset (s : State) : (endOfReset s).channels = s.channels := by
  simp only [endOfReset]
  rw [← channels_announceAbsent s]
  generalize announceAbsent s = t
  split
  · exact channels_evaluateTakeover _
  · rfl

/-- What a part reset makes of the channel records (R49). -/
theorem partReset_channels (s : State) (c : Chan) :
    (partReset s).channels[c] = partResetRecord (bound s c) s.settings.lowerWindow s.channels[c] := by
  have later (t : State) : (endOfReset (resetRoster (resetForward (resetScheduler (resetChangeover t))))).channels = t.channels :=
    by rw [channels_endOfReset, resetRoster, resetForward, State.modFwd_channels, channels_resetScheduler]; rfl
  generalize hu : resetRecognition (resetTrain (resetArbiter s)) = u
  have same : u.channels = s.channels ∧ u.config = s.config := by subst hu; exact ⟨rfl, by simp⟩
  rw [partReset, hu, later, resetChannels_channels, bound_congr same.2, (sameConfiguration_of_config same.2).settings, same.1]

theorem partReset_ok {s : State} (h : ChannelsOk s) : ChannelsOk (partReset s) := fun c => by
  rw [partReset_channels]; exact partResetRecord_ok _ _ (h c)

/-! ## Commands and steps -/

theorem moved_react {act : State → State} {s t : State} (h : Moved s.channels (act s)) (e : react act s = .next t) :
    Moved s.channels t := by
  cases e; exact moved_settle h s

/-- A management request whose own rule moves the channels legally, with what follows it. -/
theorem moved_request {decide : State → Reply} {q c : Byte} {s t : State}
    (h : ∀ {v u}, Moved v u → Moved v (decide u).state) (e : react (manage q c decide) s = .next t) : Moved s.channels t := by
  refine moved_react ?_ e
  have heard : Moved s.channels (trainFrameTaken s) := (moved_trainFrameTaken ..).2 (.refl s)
  simp only [manage]
  split
  · simpa using heard
  · simpa [respond] using h heard

/-- CHANNEL-RESET and the resets of the part, which may move a LOCKED channel (R44, R48, R49). -/
def resets (s : State) : Instr → Prop
  | .channelReset .. | .powerOnReset => True
  | .trainTransmissionComplete => s.train.resetPending = true
  | _ => False

theorem exec_moved {c : Instr} {s t : State} (hc : ¬ resets s c) (e : exec c s = .next t) : Moved s.channels t := by
  have h : Moved s.channels s := .refl s
  cases c with
  | powerOnReset | channelReset => exact absurd trivial hc
  | roofFrameIgnored => cases e; exact h
  | trainFrameIgnored => cases e; simpa using h
  | roofFrameCheckFailure kind => exact moved_react (by simpa using h) e
  | sample n q p => exact moved_react (moved_takeRoofFrame h n q _) e
  | contact n q p | breakerState n q p | switchState n q p | contactorState n q p | announce n q p =>
    exact moved_react (moved_takeRoofFrame h n q _) e
  | ack n q k p | unknownReport n q k p => exact moved_react (moved_takeRoofFrame h n q _) e
  | trainFrameCheckFailure kind => exact moved_react (by simpa using h) e
  | unknownRequest q k p => exact moved_request id e
  | readStatus q p => exact moved_request (fun h => (readRecord_isRead p _).state.symm ▸ h) e
  | readEntry q p => exact moved_request (fun h => (readTable_isRead p _).state.symm ▸ h) e
  | loadEntrySystem q l => exact moved_request (moved_loadSystem · l) e
  | clearEntrySystem q l => exact moved_request (moved_clearSystem · l) e
  | loadEntryPosition q l => exact moved_request (moved_loadPosition · l) e
  | clearEntryPosition q l => exact moved_request (moved_clearPosition · l) e
  | loadEntryZone q l => exact moved_request (moved_loadZone · l) e
  | clearEntryZone q l => exact moved_request (moved_clearZone · l) e
  | loadEntryNode q l => exact moved_request (moved_loadNode · l) e
  | clearEntryNode q l => exact moved_request (moved_clearNode · l) e
  | loadEntryWindow q l => exact moved_request (moved_loadWindow · l) e
  | clearEntryWindow q l => exact moved_request (moved_clearWindow · l) e
  | loadEntryInterlock q l => exact moved_request (moved_loadInterlock · l) e
  | clearEntryInterlock q l => exact moved_request (moved_clearInterlock · l) e
  | loadEntryConfig q l => exact moved_request (moved_loadConfig · l) e
  | clearEntryConfig q l => exact moved_request (moved_clearConfig · l) e
  | nodeCommand n q k p => exact moved_react (by simpa using h) e
  | powerUp q p => exact moved_request (fun h => moved_systemOrder h (moved_powerUpOrder h) p) e
  | changeover q p => exact moved_request (fun h => moved_systemOrder h (moved_changeoverOrder h) p) e
  | powerDown q p => exact moved_request (fun h => moved_heldOr h (moved_powerDown h)) e
  | neutralAhead q p => exact moved_request (moved_heldOr · (moved_neutralAheadOrder ‹_›)) e
  | sectionClear q p => exact moved_request (fun h => moved_heldOr h (moved_sectionClearOrder h)) e
  | clearLockout q p => exact moved_request moved_clearLockoutOrder e
  | loweringOrder q p => exact moved_request (moved_loweringOrderReply · p) e
  | channelLower q p => exact moved_request (fun h => moved_channelOrder h (moved_channelLowerOrder h) p) e
  | remap q p => exact moved_request (moved_remapOrder · p) e
  | iceSeason q p => exact moved_request (moved_iceSeasonOrder · p) e
  | scrape q p => exact moved_request moved_scrapeOrder e
  | depotAccess q p => exact moved_request (moved_depotAccessOrder · p) e
  | noticeFilter q p => exact moved_request (moved_noticeFilterOrder · p) e
  | partReset q p => exact moved_request moved_partResetOrder e
  | takeoverRequestAsserted | takeoverRequestDeasserted | roofTransmissionComplete => exact moved_react (by simpa using h) e
  | trainTransmissionComplete =>
    refine moved_react ?_ e
    simp only [trainComplete]
    split
    · exact h
    · split
      case isTrue pending => exact absurd pending.2 hc
      case isFalse => exact h
  | sampleTimeout => exact moved_react (by simp [expireSample, h]) e
  | raiseWindowExpiry c => exact moved_react (moved_expireRaiseWindow h c) e
  | lowerWindowExpiry c => exact moved_react (moved_expireLowerWindow h c) e
  | lowerRepetition c => exact moved_react (moved_expireLowerRep h c) e
  | cooldownExpiry c => exact moved_react (moved_expireCooldown h c) e
  | channelSustainTimerExpiry c => exact moved_react (moved_expireChanSustain h c) e
  | breakerSustainTimerExpiry => exact moved_react (by simp [expireBreakerSustain, h]) e
  | openRepetition => exact moved_react (by simp [expireOpenRep, h]) e
  | recognitionDeadlineExpiry => exact moved_react (by simp [expireRecognition, h]) e
  | switchWindowExpiry => exact moved_react (by simp [expireSwitchWindow, h]) e
  | settleIntervalExpiry => exact moved_react (by simp [expireSettle, h]) e
  | closeWindowExpiry => exact moved_react (by simp [expireCloseWindow, h]) e
  | openWindowExpiry => exact moved_react (by simp [expireOpenWindow, h]) e
  | neutralDeadlineExpiry => exact moved_react (by simp [expireNeutral, h]) e
  | tripQuietTimerExpiry => exact moved_react (by simp [expireTripQuiet, h]) e
  | passTimerExpiry z => exact moved_react (by simp [expirePassTimer, h]) e
  | staggerTimerExpiry => exact moved_react (by simp [expireStagger, h]) e
  | passCompletion z => exact moved_react (by simp [expirePass, h]) e
  | scrapeTimerExpiry =>
    refine moved_react ?_ e
    unfold expireScrape
    split
    · exact moved_endRunAndLower h _
    · exact h
  | nodeSilence n => exact moved_react (moved_nodeSilenced h n) e
  | ackDeadlineExpiry n => exact moved_react (moved_ackTimeout h n) e
  | announceRetryTimerExpiry => exact moved_react (by simp [expireAnnounce, h]) e
  | trainLinkSilenceExpiry => exact moved_react (moved_expireSilence h) e

/-- The commands that may move a LOCKED channel keep the records legal too. -/
theorem exec_resets_ok {c : Instr} {s t : State} (h : ChannelsOk s) (hc : resets s c) (e : exec c s = .next t) :
    ChannelsOk t := by
  cases c with
  | powerOnReset => cases e; exact channelsOk_reset
  | channelReset q p =>
    cases e
    refine (moved_settle (.refl _) s).ok ?_
    simp only [manage]
    split
    · exact h
    · refine ChannelsOk.congr (s := (channelOrder channelResetOrder p (trainFrameTaken s)).state) ?_ ?_
      · unfold channelOrder
        split
        · exact h
        · split
          · exact h
          · exact channelResetOrder_ok (s := trainFrameTaken s) h _
      · simp only [respond, noteHeld]
        split <;> rfl
  | trainTransmissionComplete =>
    cases e
    refine (moved_settle (.refl _) s).ok ?_
    simp only [trainComplete]
    split
    · exact h
    · split
      · exact partReset_ok (s := s.modTrain _) h
      · exact h
  | _ => exact absurd hc id

theorem exec_ok {c : Instr} {s t : State} (h : ChannelsOk s) (e : exec c s = .next t) : ChannelsOk t := by
  by_cases hc : resets s c
  · exact exec_resets_ok h hc e
  · exact (exec_moved hc e).ok h

/-- Settles O8: every operation makes legal moves of the channel records, and CHANNEL-RESET and the resets of the part, which may
free a LOCKED channel, leave legal records too. -/
theorem channelRecordsStayLegal : Obligations.ChannelRecordsStayLegal := by
  intro s t h e
  unfold step at e
  split at e
  case h_1 =>
    unfold idle at e
    split at e
    · cases e; exact (moved_advance (.refl s)).ok h
    · exact exec_ok h e
  case h_2 c rest _ => exact exec_ok (s := { s with pending := rest }) h e

/-- Settles O11: a legal move leaves a LOCKED channel LOCKED, and only the resets make other moves. -/
theorem lockedChannelStaysLocked : Obligations.LockedChannelStaysLocked := by
  intro c s t ch locked e noReset noPowerOn notPending
  refine (exec_moved ?_ e ch).locked locked
  intro hc
  cases c with
  | powerOnReset => exact noPowerOn rfl
  | channelReset q p => exact noReset q p rfl
  | trainTransmissionComplete => rw [resets, notPending rfl] at hc; cases hc
  | _ => exact hc

end Sys2Proof.Machine

/-! # Pantograph channels: reports, orders and expiries -/

namespace Sys2Proof.Machine

/-! ## Frames for a channel's node -/

section
variable {s : State} {c : Chan} {n : Node}

theorem chanNode?_eq {a : PosAssign} (h : s.positions[s.roleMap[c]].assigned = some a) : chanNode? s c = some a.node := by
  simp only [chanNode?, assignOf, posOf, h, Option.map_some]

theorem placeAChan_eq (h : chanNode? s c = some n) (f : AFrame) : placeAChan c f s = placeA n f s := by
  rw [placeAChan, h]

theorem withdrawRaiseChan_eq (h : chanNode? s c = some n) : withdrawRaiseChan c s = withdrawRaise n s := by
  rw [withdrawRaiseChan, h]

end

/-! ## CONTACT reports -/

/-- The state in which a report of node n has been delivered to position p (R25, R106). -/
def seen (s : State) (n : Node) (p : Pos) (pos : PanPos) : State :=
  { s with nodes := upd s.nodes n heardFrom, positions := upd s.positions p fun r => { r with lastPos := some pos } }

/-- A CONTACT report that is taken for the channel of its position, by its effect on the channel. -/
theorem exec_contact {s v : State} {n : Node} {p : Pos} {c : Chan} {pos : PanPos} {con add : Bool} {arc : Nat} {w : Word}
    (h : Taken s n) (hp : posNaming? s n = some p) (hc : chanAt? s p = some c) (hw : contactFields? w = some (.contact pos con add arc))
    (e : (if add then addReport c pos (seen s n p pos) else plainReport c pos con arc (seen s n p pos)) = v) (ho : v.owed = [])
    (q : Byte) (rest : List Word) :
    exec (.contact n q (w :: rest)) s = .next (follows s (offerMirror ⟨n, .report, q, 1, w :: rest⟩ v)) := by
  refine react_eq_of ?_ ((offerMirror_owed ..).trans ho)
  have holds : report? 1 (w :: rest) = some (.contact pos con add arc) := hw
  have named : posNaming? { s with nodes := upd s.nodes n heardFrom } n = some p := hp
  have channel : chanAt? ({ s with nodes := upd s.nodes n heardFrom }.modPos p fun r => { r with lastPos := some pos }) p = some c := hc
  rw [takeReport_taken h holds, deliverReport]
  simp only [named, contactReport, channel]
  exact congrArg _ e

/-- Supervision of a channel that is UP, where the report lowers the counter (R34). -/
theorem superviseContact_falls (s : State) (c : Chan) :
    superviseContact c true 0 s = s.modChan c fun r => { r with counter := s.channels[c].counter - 1 } := rfl

/-- The counter after a report that raises it, where that stays below half the limit (R34). -/
theorem counterAfter_rises {r : Channel} {con : Bool} {arc : Nat} (hr : ¬ (arc = 0 ∧ con = true))
    (low : 2 * (r.counter + (if arc = 0 then 16 else 16 * arc)) < r.limit) :
    counterAfter r con arc = r.counter + (if arc = 0 then 16 else 16 * arc) := by
  unfold counterAfter
  split
  case isTrue some => rw [if_neg (by omega)] at low ⊢; omega
  case isFalse none =>
    have zero : arc = 0 := by omega
    rw [if_pos zero] at low ⊢
    rw [if_neg fun on => hr ⟨zero, on⟩]
    omega

/-- Supervision of a channel that is UP, where the report raises the counter to a value below half the limit (R34). -/
theorem superviseContact_rises {s : State} {c : Chan} {con : Bool} {arc : Nat} (hr : ¬ (arc = 0 ∧ con = true))
    (low : 2 * (s.channels[c].counter + (if arc = 0 then 16 else 16 * arc)) < s.channels[c].limit) :
    superviseContact c con arc s =
      s.modChan c fun r => { r with counter := s.channels[c].counter + (if arc = 0 then 16 else 16 * arc) } := by
  have rises : counterRises con arc = true := by
    by_cases e : arc = 0
    · simp_all [counterRises]
    · simp only [counterRises, show 1 ≤ arc by omega, decide_true, Bool.true_or]
  have stays : crossesHalf s.channels[c].counter (s.channels[c].counter + (if arc = 0 then 16 else 16 * arc))
      s.channels[c].limit = false := by
    rw [crossesHalf, Bool.and_eq_false_iff]; exact .inr (decide_eq_false (by omega))
  simp only [superviseContact, rises, counterAfter_rises hr low, stays, if_true, if_false, Bool.false_eq_true]
  rw [if_neg (by omega)]

/-- Settles O25: the report moves no channel, and of the channel at most the counter changes. -/
theorem contactReportIsTaken : Obligations.ContactReportIsTaken := by
  intro s n q w rest p c pos con arc taken _ named channel fields
  refine ⟨fun still => ?_, fun up away none on => ?_, fun up away some low => ?_⟩
  · refine exec_contact taken named channel fields ?_ (by exact taken.owed) q rest
    simp only [Bool.false_eq_true, if_false, plainReport]
    obtain e | e | e | ⟨e, off⟩ | ⟨e, off⟩ := still
    case inr.inr.inr.inl | inr.inr.inr.inr => simp only [seen, e, off, if_false]
    all_goals simp only [seen, e]
  · subst none on
    refine exec_contact taken named channel fields ?_ (by exact taken.owed) q rest
    simp only [Bool.false_eq_true, if_false, plainReport, show (seen s n p pos).channels[c].state = .up from up, away,
      superviseContact_falls]
    exact congrArg (fun l => { seen s n p pos with channels := l }) (upd_congr rfl)
  · refine exec_contact taken named channel fields ?_ (by exact taken.owed) q rest
    simp only [Bool.false_eq_true, if_false, plainReport, show (seen s n p pos).channels[c].state = .up from up, away]
    exact superviseContact_rises some low

/-! ## Changes of the changeover state that the heaters do not see -/

/-- Outside POWERED the heater gate is closed (R88). -/
theorem gateOpen_eq_false {s : State} (h : s.co.state ≠ .powered) : gateOpen s = false := by simp [gateOpen, h]

theorem gateChange_same {s : State} {was : Bool} (h : gateOpen s = was) : gateChange was s = s := by
  subst h; simp [gateChange]

theorem endRun_noRun {s : State} (h : s.scrape.run = .noRun) (why : EndReason) : endRun why s = s := by
  simp only [endRun, h, if_true]

/-- A change between states other than POWERED, with no run that it ends, changes the changeover record alone (R52, R101). -/
theorem setCo_eq {s : State} {st : CoState} (here : s.co.state ≠ .powered) (there : st ≠ .powered)
    (run : endsRun st = false ∨ s.scrape.run = .noRun) : setCo st s = s.modCo (changeRecord st) := by
  have gate : gateChange (gateOpen s) (s.modCo (changeRecord st)) = s.modCo (changeRecord st) :=
    gateChange_same ((gateOpen_eq_false (s := s.modCo (changeRecord st)) there).trans (gateOpen_eq_false here).symm)
  simp only [setCo, gate]
  split
  case isTrue ends =>
    obtain e | e := run
    · rw [ends] at e; cases e
    · exact endRun_noRun (s := s.modCo (changeRecord st)) e _
  case isFalse => rfl

/-- Leaving a state other than POWERED and NEUTRAL for one other than POWERED sets the state alone (R66, R76). -/
theorem changeRecord_eq {r : Changeover} {st : CoState} (powered : r.state ≠ .powered) (neutral : r.state ≠ .neutral) :
    changeRecord st r = { r with state := st } := by
  simp only [changeRecord, powered, neutral, false_and, if_false]

theorem setCo_state {s : State} (st : CoState) (powered : s.co.state ≠ .powered) (neutral : s.co.state ≠ .neutral)
    (there : st ≠ .powered) (run : endsRun st = false ∨ s.scrape.run = .noRun) :
    setCo st s = s.modCo fun r => { r with state := st } :=
  (setCo_eq powered there run).trans (congrArg (fun r => { s with co := r }) (changeRecord_eq powered neutral))

/-! ## The hand-on of a channel's change (R45) -/

theorem scrapeOnChannel_other {s : State} {c : Chan} (h : s.scrape.chan ≠ some c) (old new : ChanState) :
    scrapeOnChannel c old new s = s := by
  rw [scrapeOnChannel, if_neg fun run => h run.2]

theorem coOnChannel_other {s : State} {c : Chan} (h : s.co.collector ≠ some c) (old new : ChanState) :
    coOnChannel c old new s = s := if_pos h

/-- The collector has reached the wire and the line shows no system: recognition starts (R57, R59). -/
theorem enterRecognizing_eq {s : State} (h : s.co.state = .raising) (line : ∀ k, s.recog.result ≠ .system k) :
    enterRecognizing s = s.modCo fun r =>
      { r with state := .recognizing, phase := some (.recognitionDeadline, s.settings.recognitionDeadline) } := by
  have change := setCo_state .recognizing (by rw [h]; nofun) (by rw [h]; nofun) nofun (.inl rfl)
  simp only [enterRecognizing, change]
  split
  case h_1 r e => exact absurd e (line r)
  case h_2 => rfl

theorem coOnChannel_reached {s : State} {c : Chan} (h : s.co.collector = some c) (raising : s.co.state = .raising) :
    coOnChannel c .raising .up s = enterRecognizing s := by
  simp [coOnChannel, leftRaised, h, raising]

/-- Settles O26: the report completes the raise, and the completed raise of the collector starts the recognition. -/
theorem collectorReachesTheWire : Obligations.CollectorReachesTheWire := by
  intro s n q w rest p c arc taken _ named channel fields raising collector starting line free
  refine exec_contact taken named channel fields ?_ (by exact taken.owed) q rest
  simp only [Bool.false_eq_true, if_false, plainReport, show (seen s n p .up).channels[c].state = .raising from raising,
    and_self, if_true]
  have complete : raiseComplete c (seen s n p .up) = (seen s n p .up).modChan c fun r => { r with state := .up, phase := none } :=
    scrapeOnChannel_other (s := (seen s n p .up).modChan c _) free _ _
  rw [complete, coOnChannel_reached (by exact collector) (by exact starting), enterRecognizing_eq (by exact starting) (by exact line)]
  rfl

/-! ## Reports that end a lowering or lock a channel -/

/-- Settles O27: the end of a lowering that is not the collector's is handed on to no one, and a report with ADD locks a resting
channel. -/
theorem reportsEndALoweringOrLock : Obligations.ReportsEndALoweringOrLock := by
  refine ⟨fun s n q w rest p c con arc taken _ named channel fields lowering other => ?_,
    fun s n q w rest p c pos con arc taken _ named channel fields resting => ?_⟩
  · intro next
    refine exec_contact taken named channel fields ?_ (by exact taken.owed) q rest
    have after : afterLowering (seen s n p .down).channels[c] = next := by
      simp only [next, afterLowering, ite_not]; rfl
    simp only [Bool.false_eq_true, if_false, plainReport, show (seen s n p .down).channels[c].state = .lowering from lowering, if_true]
    rw [loweringEnds, coOnChannel_other (by exact other), endLowering, after]
    rfl
  · refine exec_contact taken named channel fields ?_ (by exact taken.owed) q rest
    have locks : addReport c pos (seen s n p pos) = addLocks c (seen s n p pos) := by
      obtain e | e := resting <;>
        simp only [addReport, show (seen s n p pos).channels[c].state = _ from e]
    rw [if_pos rfl, locks]
    rfl

end Sys2Proof.Machine

namespace Sys2Proof.Machine

/-! ## Loads and clears of a position record -/

theorem word_number {n : Nat} (h : n ≤ 65535) {i : Fin n} {w : Word} (e : w.toNat = number i) : word (number i) = w := by
  rw [word, if_pos (by simp only [number]; omega), ← e, BitVec.ofNat_toNat, BitVec.setWidth_eq]

/-- A node that has announced nothing is not judged anew (R110). -/
theorem rejudge_quiet {s : State} {n : Node} (h : s.nodes[n].declRole = none) : rejudge n s = s := by
  rw [rejudge, if_neg fun judged => by rw [h] at judged; cases judged.1]

theorem rejudgeOld_quiet {s : State} {old : Option Node} (h : ∀ n, old = some n → s.nodes[n].declRole = none)
    (now : Option Node) : rejudgeOld old now s = s := by
  unfold rejudgeOld
  split
  · rfl
  case h_2 n =>
    split
    · rfl
    · exact rejudge_quiet (h n rfl)

section
variable {s : State} {p : Pos} {a : PosAssign}

theorem admitPosition_wrongRole (h : s.nodes[a.node].role ≠ .pantographUnit) : admitPosition p a s = refuse s .badEntry :=
  if_pos h

/-- The search of the other positions for a node (R23). -/
theorem otherPosition_iff : ((List.finRange 4).any fun q => q ≠ p ∧ s.positions[q].assigned.map PosAssign.node = some a.node) = true ↔
    ∃ (o : Pos) (x : PosAssign), o ≠ p ∧ s.positions[o].assigned = some x ∧ x.node = a.node := by
  simp only [List.any_eq_true, List.mem_finRange, true_and, decide_eq_true_eq, Option.map_eq_some_iff, exists_and_left]

theorem admitPosition_duplicate (h : s.nodes[a.node].role = .pantographUnit)
    (other : ∃ (o : Pos) (x : PosAssign), o ≠ p ∧ s.positions[o].assigned = some x ∧ x.node = a.node) :
    admitPosition p a s = refuse s .duplicate := by
  rw [admitPosition, if_neg (not_not.2 h), if_pos (otherPosition_iff.2 other)]

theorem admitPosition_ok (h : s.nodes[a.node].role = .pantographUnit)
    (free : ¬ ∃ (o : Pos) (x : PosAssign), o ≠ p ∧ s.positions[o].assigned = some x ∧ x.node = a.node) :
    admitPosition p a s = accept (storePosition p a s) (PosRec.words p { assigned := some a, lastPos := none }) := by
  rw [admitPosition, if_neg (not_not.2 h), if_neg (mt otherPosition_iff.1 free)]

/-- A load whose nodes have announced nothing sets the position record alone (R23, R110). -/
theorem storePosition_quiet (old : ∀ x, s.positions[p].assigned = some x → s.nodes[x.node].declRole = none)
    (new : s.nodes[a.node].declRole = none) : storePosition p a s = s.modPos p fun r =>
      { assigned := some a, lastPos := if s.positions[p].assigned.map PosAssign.node = some a.node then r.lastPos else none } := by
  simp only [storePosition]
  rw [rejudge_quiet (by exact new), rejudgeOld_quiet]
  intro n e
  obtain ⟨x, hx, rfl⟩ := Option.map_eq_some_iff.1 e
  exact old x hx

end

/-- The strip-zone word of a POSITION load (11.4). -/
theorem stripZone?_eq {strip : Option Zone} {w : Word} (h : w.toNat = match strip with | none => 0 | some z => number z) :
    stripZone? w = some strip := by
  cases strip with
  | none => exact if_pos (BitVec.eq_of_toNat_eq h)
  | some z =>
    have nonzero : w ≠ 0 := fun zero => by rw [zero] at h; simp [number] at h
    rw [stripZone?, if_neg nonzero, h]
    exact congrArg _ (numbered?_number z)

/-- The words of a position entry are those of the load that made it (11.4). -/
theorem posWords_eq (p : Pos) {a : PosAssign} {nw cw zw : Word} (hn : nw.toNat = number a.node)
    (hc : cw.toNat = number a.cls) (hz : zw.toNat = match a.strip with | none => 0 | some z => number z) (l : Option PanPos) :
    PosRec.words p { assigned := some a, lastPos := l } = [word (number p), nw, cw, zw] := by
  have strip : num a.strip = zw := by
    cases e : a.strip with
    | none => rw [e] at hz; exact (BitVec.eq_of_toNat_eq hz).symm
    | some z => rw [e] at hz; exact word_number (by omega) hz
  change [word (number p), word (number a.node), word (number a.cls), num a.strip] = _
  rw [word_number (by omega) hn, word_number (by omega) hc, strip]

/-- Settles O41: outside the freeze a load with fields in range comes to `admitPosition`, and where the nodes named have announced
nothing no judgement follows. -/
theorem positionLoadAndClear : Obligations.PositionLoadAndClear := by
  intro s q p pw rest h thawed position quiet
  have position_at : numbered? 4 pw.toNat = some p := position ▸ numbered?_number p
  have thawed' : ¬ frozen (trainFrameTaken s) = true := by rw [show frozen (trainFrameTaken s) = frozen s from rfl, thawed]; nofun
  refine ⟨fun a nw cw zw node cls strip => ?_, ?_⟩
  · intro load same other
    have admits : loadPosition (pw :: nw :: cw :: zw :: rest) (trainFrameTaken s) = admitPosition p a (trainFrameTaken s) := by
      simp only [loadPosition, if_neg thawed', position_at, node, cls, numbered?_number, stripZone?_eq strip]
    refine ⟨fun role => ?_, fun role taken => ?_, fun role free silent => ?_⟩
    · exact request_refused h (admits.trans (admitPosition_wrongRole role)) nofun q 2
    · exact request_refused h (admits.trans (admitPosition_duplicate role taken)) nofun q 2
    · have known : same ↔ (trainFrameTaken s).positions[p].assigned.map PosAssign.node = some a.node :=
        Option.map_eq_some_iff.symm
      have stored := admits.trans (admitPosition_ok role free)
      rw [storePosition_quiet (s := trainFrameTaken s) quiet silent, posWords_eq p node cls strip] at stored
      refine ⟨fun held => ?_, fun fresh => ?_⟩
      · simp only [known.1 held, if_true] at stored
        exact request_answered h stored nofun h.owed q 2
      · simp only [mt known.2 fresh, if_false] at stored
        exact request_answered h stored nofun h.owed q 2
  · have clears : clearPosition (pw :: rest) (trainFrameTaken s) = accept ((trainFrameTaken s).modPos p fun _ => {}) [] := by
      simp only [clearPosition, clearSlot, if_neg thawed', position_at]
      rw [rejudgeOld_quiet]
      intro n e
      obtain ⟨x, hx, rfl⟩ := Option.map_eq_some_iff.1 e
      exact quiet x hx
    exact request_answered h clears nofun h.owed q 4

end Sys2Proof.Machine

namespace Sys2Proof.Machine

/-! ## Loads and clears of the configuration set -/

/-- The channel of a CONFIG key: the lowering rank alone has one (11.4). -/
def ConfigItem.chan (i : ConfigItem) (c : Chan) : Option Chan := if i = .rank then some c else none

/-- The channel records after an item takes a value (R36, R160). -/
def ConfigItem.channels (i : ConfigItem) (c : Chan) (x : Nat) (l : Vector Channel 4) : Vector Channel 4 :=
  match i with
  | .rank => upd l c fun r => { r with rank := x }
  | .contactLoss => l.map (newContactLoss x)
  | _ => l

theorem setConfig_eq (i : ConfigItem) (c : Chan) (x : Nat) (s : State) :
    setConfig i (i.chan c) x s = { s with settings := i.put x s.settings, channels := i.channels c x s.channels } := by
  cases i <;> rfl

/-- The value may be taken by the item: a clamped number, or on or off (R160). -/
def ConfigItem.Admits (i : ConfigItem) (x : Nat) : Prop := InRange i x ∧ (i.range? = none → x ≤ 1)

theorem default_admits (i : ConfigItem) : i.Admits i.default :=
  ⟨default_inRange i, by cases i <;> simp [ConfigItem.range?, ConfigItem.default]⟩

theorem ConfigItem.Admits.lt {i : ConfigItem} {x : Nat} (h : i.Admits x) : x < 4294967296 := by
  obtain ⟨numeric, onOff⟩ := h
  cases e : i.range? with
  | none => exact Nat.lt_of_le_of_lt (onOff e) (by decide)
  | some r =>
    have top : r.2 ≤ 120000 := by cases i <;> cases e <;> decide
    exact Nat.lt_of_le_of_lt ((numeric r.1 r.2 e).2.trans top) (by decide)

/-- The item takes the value. -/
theorem get_channels_self {s t : State} {i : ConfigItem} {c : Chan} {x : Nat} (hs : t.settings = i.put x s.settings)
    (hc : t.channels = i.channels c x s.channels) (hx : i.Admits x) : i.get t (some c) = x := by
  have flag : ∀ {y : Nat}, y ≤ 1 → onOffValue (decide (y = 1)) = y := by decide
  cases i with
  | rank => simp only [ConfigItem.get, hc, ConfigItem.channels, upd_self]
  | autoReclose | acceptCompatible | autoScrape => simp only [ConfigItem.get, hs, ConfigItem.put]; exact flag (hx.2 rfl)
  | _ => simp only [ConfigItem.get, hs, ConfigItem.put]

/-- The channel records but for what the item sets (R36). -/
theorem channels_get (i : ConfigItem) (c : Chan) (x : Nat) (l : Vector Channel 4) (d : Chan) : (i.channels c x l)[d] = { l[d] with
    rank := (i.channels c x l)[d].rank,
    limit := if i = .contactLoss ∧ (l[d].state = .raising ∨ l[d].state = .up) then counterLimit x l[d].duty else l[d].limit,
    counter := if i = .contactLoss ∧ l[d].state = .up then 0 else l[d].counter } := by
  cases i with
  | rank =>
    simp only [ConfigItem.channels, upd_get, reduceCtorEq, false_and, if_false]
    split <;> rfl
  | contactLoss =>
    have mapped : (l.map (newContactLoss x))[d] = newContactLoss x l[d] := Vector.getElem_map ..
    simp only [ConfigItem.channels, mapped, newContactLoss]
    generalize l[d] = r
    obtain ⟨st, _⟩ := r
    cases st <;> rfl
  | _ => rfl

/-- A write to an item leaves the rank of every channel but the one it names. -/
theorem channels_rank {i : ConfigItem} {c d : Chan} (h : ¬ (i = .rank ∧ d = c)) (x : Nat) (l : Vector Channel 4) :
    (i.channels c x l)[d].rank = l[d].rank := by
  cases i with
  | rank => rw [ConfigItem.channels, upd_other _ _ fun e => h ⟨rfl, e.symm⟩]
  | contactLoss =>
    have mapped : (l.map (newContactLoss x))[d] = newContactLoss x l[d] := Vector.getElem_map ..
    rw [ConfigItem.channels, mapped, newContactLoss_rank]
  | _ => rfl

/-- Every other item keeps its value. -/
theorem get_channels_other {s t : State} {i j : ConfigItem} {c : Chan} {d : Option Chan} {x : Nat}
    (hs : t.settings = i.put x s.settings) (hc : t.channels = i.channels c x s.channels)
    (h : ¬ (j = i ∧ (i = .rank → d = some c))) : j.get t d = j.get s d := by
  by_cases e : j = .rank
  · subst e
    cases d with
    | none => rfl
    | some d =>
      simp only [ConfigItem.get, hc]
      exact channels_rank (fun ⟨hi, hd⟩ => h ⟨hi.symm, fun _ => congrArg some hd⟩) x _
  · exact get_put_other hs e (fun same => h ⟨same, fun rank => absurd (same.trans rank) e⟩) d

/-- An item's word is its number (11.4). -/
theorem word_configItem {w : Word} {i : ConfigItem} (h : configItem? w = some i) : word i.number = w := by
  unfold configItem? at h
  split at h
  · cases h
  next nonzero =>
    obtain ⟨inside, at_⟩ := List.getElem?_eq_some_iff.1 h
    have index : configItems.idxOf i = w.toNat - 1 := by
      rw [← at_]; exact List.Nodup.idxOf_getElem (by decide) _ inside
    have positive : w.toNat ≠ 0 := fun zero => nonzero (BitVec.eq_of_toNat_eq zero)
    have value : i.number = w.toNat := by rw [ConfigItem.number, index]; omega
    rw [value, word, if_pos (by omega), BitVec.ofNat_toNat, BitVec.setWidth_eq]

theorem configKey?_eq {i : ConfigItem} {c : Chan} {iw cw : Word} (hi : configItem? iw = some i)
    (hc : i = .rank → cw.toNat = number c) : configKey? iw cw = some (i, i.chan c) := by
  cases i with
  | rank => simp only [configKey?, hi, hc rfl, numbered?_number]; rfl
  | _ => simp only [configKey?, hi]; rfl

/-- The words of a CONFIG entry (11.4). -/
theorem configWords_eq {i : ConfigItem} {c : Chan} {iw cw : Word} {x : Nat} (hi : configItem? iw = some i)
    (hc : i = .rank → cw.toNat = number c) (hx : i.Admits x) : configWords i (i.chan c) x =
      [iw, if i = .rank then cw else 0] ++ [BitVec.ofNat 16 (x / 65536), BitVec.ofNat 16 x] := by
  have key : num (i.chan c) = if i = .rank then cw else 0 := by
    unfold ConfigItem.chan
    split
    case isTrue e => exact word_number (by omega) (hc e)
    case isFalse => rfl
  rw [configWords, word_configItem hi, key, words2, if_pos hx.lt]

/-- A load takes a value that its item admits, clamped where it is numeric (R160). -/
theorem configValue?_admits {i : ConfigItem} {v x : Nat} (h : (∃ a b, i.range? = some (a, b) ∧ x = max a (min b v)) ∨
    (i.range? = none ∧ x = v ∧ x ≤ 1)) : configValue? i v = some x ∧ i.Admits x := by
  obtain ⟨a, b, range, rfl⟩ | ⟨range, rfl, le⟩ := h
  · have taken : configValue? i v = some (max a (min b v)) := by simp only [configValue?, range, clamp]
    exact ⟨taken, configValue_inRange taken, fun none => by rw [range] at none; cases none⟩
  · have taken : configValue? i x = some x := by simp only [configValue?, range, if_pos le]
    exact ⟨taken, configValue_inRange taken, fun _ => le⟩

/-- Settles O44: a load or clear of an item comes to `setConfig`, whose parts are the item's own field and the channel records. -/
theorem configLoadAndClear : Obligations.ConfigLoadAndClear := by
  intro s q i c iw cw hi lo rest h item chan key takes
  have key_at : configKey? iw cw = some (i, i.chan c) := configKey?_eq item chan
  have written (x : Nat) (hx : i.Admits x) (code : Byte) : takes { s with
      settings := i.put x s.settings, channels := i.channels c x s.channels,
      train := answered s q code .ok (key ++ [BitVec.ofNat 16 (x / 65536), BitVec.ofNat 16 x]) } x := by
    refine ⟨get_channels_self rfl rfl hx, fun j d => get_channels_other rfl rfl, fun d => ?_,
      rfl, rfl, rfl, rfl, rfl, rfl, rfl, rfl, rfl, rfl, rfl, rfl, rfl, rfl, rfl, rfl, rfl⟩
    have limits : (if s.channels[d].duty = .scrape then min 4080 (32 * x) else 16 * x) = counterLimit x s.channels[d].duty := by
      cases s.channels[d].duty <;> rfl
    simp only [limits, raised_iff]
    exact channels_get i c x s.channels d
  have answers (x : Nat) (hx : i.Admits x) : accept (setConfig i (i.chan c) x (trainFrameTaken s)) (configWords i (i.chan c) x) =
      accept { trainFrameTaken s with settings := i.put x s.settings, channels := i.channels c x s.channels }
        (key ++ [BitVec.ofNat 16 (x / 65536), BitVec.ofNat 16 x]) := by
    rw [setConfig_eq, configWords_eq item chan hx]; rfl
  refine ⟨fun x hx => ?_, fun onOff big => ?_, ?_⟩
  · obtain ⟨taken, admits⟩ := configValue?_admits hx
    have loads : loadConfig (iw :: cw :: hi :: lo :: rest) (trainFrameTaken s) =
        accept (setConfig i (i.chan c) x (trainFrameTaken s)) (configWords i (i.chan c) x) := by
      simp only [loadConfig, key_at, taken]
    exact ⟨_, request_answered h (loads.trans (answers x admits)) nofun h.owed q 2, written x admits 2, rfl⟩
  · have refuses : loadConfig (iw :: cw :: hi :: lo :: rest) (trainFrameTaken s) = refuse (trainFrameTaken s) .badEntry := by
      have none : configValue? i (wide hi lo) = none := by simp only [configValue?, onOff]; exact if_neg (by omega)
      simp only [loadConfig, key_at, none]
    exact request_refused h refuses nofun q 2
  · have clears : clearConfig (iw :: cw :: rest) (trainFrameTaken s) =
        accept (setConfig i (i.chan c) i.default (trainFrameTaken s)) (configWords i (i.chan c) i.default) := by
      simp only [clearConfig, key_at]
    have admits := default_admits i
    exact ⟨_, request_answered h (clears.trans (answers _ admits)) nofun h.owed q 4, written _ admits 4, rfl⟩

end Sys2Proof.Machine

namespace Sys2Proof.Machine

/-! ## Eligibility and selection (R27 to R29) -/

theorem chanNode?_eq_none {s : State} {c : Chan} (h : s.positions[s.roleMap[c]].assigned = none) : chanNode? s c = none := by
  simp only [chanNode?, assignOf, posOf, h, Option.map_none]

theorem eligible_iff (s : State) (k : SysId) (d : Chan) : eligible s k d = true ↔ CanRaise s k d := by
  simp only [eligible, CanRaise, decide_eq_true_eq]
  refine and_congr_right fun _ => ?_
  cases ha : s.positions[s.roleMap[d]].assigned with
  | none => simp [chanNodePresent, chanNode?_eq_none ha]
  | some a =>
    have bound : assignOf s d = some a := ha
    cases he : sysEntry? s k with
    | none => simp [fitsSystem, he]
    | some e => simp [chanNodePresent, chanNode?_eq ha, fitsSystem, bound, he, classIn]

theorem stripIceRisk_iff (s : State) (d : Chan) : stripIceRisk s d = true ↔ AtRisk s d := by
  simp only [stripIceRisk, AtRisk, assignOf, posOf]
  cases ha : s.positions[s.roleMap[d]].assigned with
  | none => simp
  | some a => cases hz : a.strip <;> simp [hz]

/-- The first of the numbered things with a property. -/
theorem find?_finRange {n : Nat} {p : Fin n → Bool} {d : Fin n} (hd : p d = true) (first : ∀ x, x < d → p x = false) :
    (List.finRange n).find? p = some d := by
  refine List.find?_eq_some_iff_getElem.2 ⟨hd, d.val, by simp, by simp, fun j hj => ?_⟩
  rw [List.getElem_finRange, Bool.not_eq_true']
  exact first _ (by simpa [Fin.lt_def] using hj)

theorem find?_finRange_none {n : Nat} {p : Fin n → Bool} (h : ∀ x, p x = false) : (List.finRange n).find? p = none :=
  List.find?_eq_none.2 fun x _ => by simp [h]

/-- The last of the numbered things with a property. -/
theorem getLast?_filter_finRange {n : Nat} {p : Fin n → Bool} {d : Fin n} (hd : p d = true) (last : ∀ x, d < x → p x = false) :
    ((List.finRange n).filter p).getLast? = some d := by
  have split : List.finRange n = (List.finRange n).take d ++ d :: (List.finRange n).drop (d + 1) := by
    conv_lhs => rw [← List.take_append_drop d.val (List.finRange n), List.drop_eq_getElem_cons (by simp)]
    simp
  have none_later : ((List.finRange n).drop (d + 1)).filter p = [] := by
    rw [List.filter_eq_nil_iff]
    intro x hx
    obtain ⟨i, hi, rfl⟩ := List.mem_drop_iff_getElem.1 hx
    rw [last _ (by simp [Fin.lt_def]; omega)]
    simp
  rw [split, List.filter_append, List.filter_cons_of_pos hd, none_later, List.getLast?_concat]

/-- Collect selection in one search, and a second one where every eligible channel is at risk (R28). -/
theorem collectSelect_eq (s : State) (k : SysId) : collectSelect s k =
    ((List.finRange 4).find? fun c => eligible s k c && ! stripIceRisk s c).or ((List.finRange 4).find? fun c => eligible s k c) := by
  simp only [collectSelect, List.find?_filter, List.head?_filter, Bool.decide_and, Bool.decide_eq_true]
  cases (List.finRange 4).find? fun c => eligible s k c && ! stripIceRisk s c <;> rfl

theorem collectSelect_of_selected {s : State} {k : SysId} {d : Chan} (h : Selected s k d) : collectSelect s k = some d := by
  have elig (x : Chan) : eligible s k x = false ↔ ¬ CanRaise s k x := by rw [← eligible_iff, Bool.not_eq_true]
  have risk (x : Chan) : stripIceRisk s x = false ↔ ¬ AtRisk s x := by rw [← stripIceRisk_iff, Bool.not_eq_true]
  obtain ⟨can, ⟨safe, first⟩ | ⟨all, first⟩⟩ := h
  · rw [collectSelect_eq, find?_finRange (d := d), Option.some_or]
    · simp [(eligible_iff ..).2 can, (risk d).2 safe]
    · intro x hx
      by_cases e : CanRaise s k x
      · simp [(stripIceRisk_iff s x).2 (first x hx e)]
      · simp [(elig x).2 e]
  · rw [collectSelect_eq, find?_finRange_none, Option.none_or, find?_finRange ((eligible_iff ..).2 can)]
    · exact fun x hx => (elig x).2 (first x hx)
    · intro x
      by_cases e : CanRaise s k x
      · simp [(stripIceRisk_iff s x).2 (all x e)]
      · simp [(elig x).2 e]

theorem collectSelect_eq_none {s : State} {k : SysId} (h : ∀ d, ¬ CanRaise s k d) : collectSelect s k = none := by
  have elig (x : Chan) : eligible s k x = false := by rw [← Bool.not_eq_true, eligible_iff]; exact h x
  rw [collectSelect_eq, find?_finRange_none, Option.none_or, find?_finRange_none elig]
  intro x; simp [elig x]

/-! ## Raise requests (R30, R31) -/

/-- The arbiter after a channel of node n entered RAISING, `l` being the class B queue with its RAISE: LOWER leaves the class A slot, and
SUSTAIN takes it where it is free (R31, R126, R132). -/
def raisedQueues (n : Node) (l : List BEntry) (r : Arbiter) : Arbiter :=
  { r with classB := l, classA := upd r.classA n fun h => if h = none ∨ h = some .lower then some .sustain else h }

/-- The state in which channel c at position entry b has entered RAISING (R31). -/
def raisedState (s : State) (c : Chan) (b : PosAssign) (duty : Duty) (window : Nat) (l : List BEntry) : State :=
  { s with
    channels := upd s.channels c (raisingRecord duty (counterLimit s.settings.contactLoss duty) window s.serial)
    roof := raisedQueues b.node l s.roof
    serial := s.serial + 1 }

theorem placeB_raise {s : State} {n : Node} {c : Chan} {l : List BEntry} (present : s.nodes[n].presence ≠ .mismatch)
    (hl : insertB ⟨n, .raise c, s.serial⟩ s.roof.classB = some l) :
    placeB n (.raise c) s = removeLower n ({ s with serial := s.serial + 1 }.modRoof fun r => { r with classB := l }) := by
  simp only [placeB, present, if_false, hl, raiseClearsLower]

theorem enterRaising_eq {s : State} {c : Chan} {b : PosAssign} {l : List BEntry}
    (place : s.positions[s.roleMap[c]].assigned = some b) (present : s.nodes[b.node].presence ≠ .mismatch)
    (hl : insertB ⟨b.node, .raise c, s.serial⟩ s.roof.classB = some l) (duty : Duty) :
    enterRaising c duty s = raisedState s c b duty (raiseWindowFor s c) l := by
  have slot (h : Option AFrame) : slotAfter .sustain (if h = some .lower then none else h) =
      if h = none ∨ h = some .lower then some .sustain else h := by
    obtain _ | _ | _ | _ := h <;> rfl
  generalize hr : raisingRecord duty (counterLimit s.settings.contactLoss duty) (raiseWindowFor s c) s.serial = f
  have placed : placeRaise c (s.modChan c f) = placeB b.node (.raise c) (s.modChan c f) := by
    rw [placeRaise, chanNode?_eq (s := s.modChan c f) place]
  simp only [enterRaising, hr, placed, placeB_raise (s := s.modChan c f) present hl]
  rw [placeAChan_eq (n := b.node) (chanNode?_eq (by exact place))]
  have queues : upd (upd s.roof.classA b.node fun h => if h = some .lower then none else h) b.node (slotAfter .sustain) =
      upd s.roof.classA b.node fun h => if h = none ∨ h = some .lower then some .sustain else h := by
    rw [upd_upd]; exact upd_congr (slot _)
  simp only [raisedState, raisedQueues, ← queues, hr]
  rfl

/-- The checks of a raise request (R30). -/
theorem raiseAdmitted_iff {s : State} {c : Chan} {duty : Duty} {k : SysId} : raiseAdmitted s c duty k = true ↔
    granted s = false ∧ CanRaise s k c ∧ ∀ d, d ≠ c → ¬ (raised s d = true ∧ s.channels[d].duty = duty) := by
  simp only [raiseAdmitted, decide_eq_true_eq, eligible_iff, Bool.not_eq_true, List.any_eq_false, List.mem_finRange, true_imp_iff]
  simp only [not_and]

theorem CanRaise.present {s : State} {k : SysId} {c : Chan} {b : PosAssign} (h : CanRaise s k c)
    (place : s.positions[s.roleMap[c]].assigned = some b) : s.nodes[b.node].presence = .present := by
  obtain ⟨_, a, _, ha, present, _⟩ := h
  rw [place] at ha; cases ha; exact present

theorem raiseRequest_eq {s : State} {c : Chan} {b : PosAssign} {l : List BEntry} {duty : Duty} {k : SysId} {window : Nat}
    (active : s.co.active = some k) (free : granted s = false) (can : CanRaise s k c)
    (sole : ∀ d, d ≠ c → ¬ (raised s d = true ∧ s.channels[d].duty = duty))
    (place : s.positions[s.roleMap[c]].assigned = some b)
    (hl : insertB ⟨b.node, .raise c, s.serial⟩ s.roof.classB = some l) (hw : raiseWindowFor s c = window) :
    raiseRequest c duty s = raisedState s c b duty window l := by
  rw [raiseRequest, active]
  simp only [raiseAdmitted_iff.2 ⟨free, can, sole⟩, if_true]
  rw [enterRaising_eq place (by rw [can.present place]; nofun) hl, hw]

/-- The raise window, doubled on ICE-RISK (R31). -/
theorem raiseWindowFor_eq {s : State} {c : Chan} {window : Nat} (risky : AtRisk s c → window = 2 * s.settings.raiseWindow)
    (clear : ¬ AtRisk s c → window = s.settings.raiseWindow) : raiseWindowFor s c = window := by
  unfold raiseWindowFor
  split
  case isTrue h => exact (risky ((stripIceRisk_iff s c).1 h)).symm
  case isFalse h => exact (clear (mt (stripIceRisk_iff s c).2 h)).symm

end Sys2Proof.Machine

namespace Sys2Proof.Machine

/-! ## Requests refused with HELD (R121) -/

/-- A refusal with HELD sets the held-refusal flag. -/
theorem request_held {s : State} (h : Decides s) (grant : granted s = true) {decide : State → Reply}
    (e : decide (trainFrameTaken s) = refuse (trainFrameTaken s) .held) (q k : Byte) :
    react (manage q k decide) s = .next (follows s { s with
      takeover := { s.takeover with held := true }, train := answered s q k .held [] }) := by
  refine react_eq_of ?_ h.owed
  rw [manage_decided h, e, respond, noteHeld, if_pos ⟨rfl, grant⟩]
  rfl

/-- The arbiter's class B takes the entry that is inserted (R126). -/
theorem mem_of_insertB {e : BEntry} {q l : List BEntry} (h : insertB e q = some l) : e ∈ l := by
  unfold insertB at h
  split at h
  case isTrue held =>
    obtain ⟨x, hx, same⟩ := List.any_eq_true.1 held
    cases h
    exact List.mem_map.2 ⟨x, hx, if_pos (of_decide_eq_true same)⟩
  case isFalse =>
    split at h
    · cases h; simp
    · split at h <;> cases h
      simp

theorem heldOr_congr {order order' : State → Reply} {s : State} (e : order s = order' s)
    (e' : order (withoutGrant s) = order' (withoutGrant s)) : heldOr order s = heldOr order' s := by
  simp only [heldOr, e, e']

theorem heldOr_free {order : State → Reply} {s : State} (h : granted s = false) : heldOr order s = order s :=
  if_neg fun held => by rw [h] at held; exact absurd held.1 nofun

/-! ## Starts of the power path (R54 to R56) -/

/-- The state in which the power path has started for k with channel c at position entry a (R56). -/
def startedState (s : State) (k : SysId) (c : Chan) (a : PosAssign) (window : Nat) (l : List BEntry) : State :=
  { raisedState s c a .collect window l with
    co := { s.co with state := .raising, ordered := some k, active := some k, collector := some c, substituteUsed := false } }

section
variable {s : State} {k : SysId} {c : Chan} {a : PosAssign} {l : List BEntry} {window : Nat}

theorem startWith_eq (here : s.co.state = .idle ∨ s.co.state = .coasting) (free : granted s = false) (can : CanRaise s k c)
    (sole : ∀ d, d ≠ c → ¬ (raised s d = true ∧ s.channels[d].duty = .collect))
    (place : s.positions[s.roleMap[c]].assigned = some a) (hl : insertB ⟨a.node, .raise c, s.serial⟩ s.roof.classB = some l)
    (hw : raiseWindowFor s c = window) : startWith k c s = startedState s k c a window l := by
  have quiet : s.co.state ≠ .powered ∧ s.co.state ≠ .neutral := by obtain e | e := here <;> rw [e] <;> exact ⟨nofun, nofun⟩
  obtain ⟨powered, neutral⟩ := quiet
  generalize ordered : (s.modCo fun r =>
    { r with ordered := some k, active := some k, collector := some c, substituteUsed := false }) = t
  have raises : raiseRequest c .collect t = raisedState t c a .collect window l := by
    subst ordered; exact raiseRequest_eq (k := k) rfl free can sole place hl hw
  rw [startWith, ordered, raises]
  subst ordered
  exact setCo_state .raising powered neutral nofun (.inl rfl)

theorem heldOr_startFor_none (h : ∀ d, ¬ CanRaise s k d) : heldOr (startFor k) s = refuse s .noCollector := by
  have none (t : State) (ht : ∀ d, ¬ CanRaise t k d) : startFor k t = refuse t .noCollector := by
    simp only [startFor, collectSelect_eq_none ht]
  have tried : startFor k (withoutGrant s) = refuse (withoutGrant s) .noCollector := none _ h
  rw [heldOr, tried, none s h]
  refine if_neg fun held => held.2 ?_
  simp [sameOwnQueues, refuse, withoutGrant]

theorem startFor_selected (h : Selected s k c) : startFor k s = accept (startWith k c s) [] := by
  simp only [startFor, collectSelect_of_selected h]

/-- RAISE finds a place during the trial that leaves the grant out, so that the class B queue would change (log 8). -/
theorem heldOr_startFor_held (here : s.co.state = .idle ∨ s.co.state = .coasting) (grant : granted s = true) (h : Selected s k c)
    (sole : ∀ d, d ≠ c → ¬ (raised s d = true ∧ s.channels[d].duty = .collect))
    (place : s.positions[s.roleMap[c]].assigned = some a) (hl : insertB ⟨a.node, .raise c, s.serial⟩ s.roof.classB = some l)
    (none : ∀ e ∈ s.roof.classB, e.node ≠ a.node) : heldOr (startFor k) s = refuse s .held := by
  have tried : startFor k (withoutGrant s) = accept (startedState (withoutGrant s) k c a (raiseWindowFor s c) l) [] := by
    rw [startFor_selected (s := withoutGrant s) h]
    exact congrArg (fun t => accept t []) (startWith_eq (s := withoutGrant s) here rfl h.1 sole place hl rfl)
  have changes : s.roof.classB ≠ l := by
    rintro rfl
    exact none _ (mem_of_insertB hl) rfl
  rw [heldOr, tried]
  refine if_pos ⟨grant, fun same => changes ?_⟩
  simp only [sameOwnQueues, decide_eq_true_eq] at same
  exact same.2

end

/-- The three orders of the statement come to one start. -/
theorem path_start {s : State} {q : Byte} {k : SysId} {w : Word} {rest : List Word} {cmd : Instr} {code : Byte}
    (known : sysEntry? s k ≠ none)
    (h : (cmd = .powerUp q (w :: rest) ∧ code = 16 ∧ w.toNat = number k ∧ (s.co.state = .idle ∨ s.co.state = .coasting)) ∨
      (cmd = .changeover q (w :: rest) ∧ code = 18 ∧ w.toNat = number k ∧ s.co.state = .idle) ∨
      (cmd = .sectionClear q rest ∧ code = 20 ∧ s.co.ordered = some k ∧ s.co.state = .coasting)) :
    (s.co.state = .idle ∨ s.co.state = .coasting) ∧ ∃ order : State → Reply, exec cmd s = react (manage q code order) s ∧
      order (trainFrameTaken s) = heldOr (startFor k) (trainFrameTaken s) := by
  have names (hw : w.toNat = number k) : orderedSystem? (trainFrameTaken s) w = some k := by
    rw [orderedSystem?, hw, numbered?_number]
    exact if_pos (Option.isSome_iff_ne_none.2 known)
  obtain ⟨rfl, rfl, hw, here⟩ | ⟨rfl, rfl, hw, here⟩ | ⟨rfl, rfl, ho, here⟩ := h
  · refine ⟨here, systemOrder powerUpOrder (w :: rest), rfl, ?_⟩
    obtain e | e := here
    · simp only [systemOrder, show (trainFrameTaken s).co.state = .idle from e, reduceCtorEq, if_false, names hw]
      exact heldOr_congr (by simp only [powerUpOrder, show (trainFrameTaken s).co.state = .idle from e])
        (by simp only [powerUpOrder, show (withoutGrant (trainFrameTaken s)).co.state = .idle from e])
    · simp only [systemOrder, show (trainFrameTaken s).co.state = .coasting from e, reduceCtorEq, if_false, names hw]
      exact heldOr_congr (by simp only [powerUpOrder, show (trainFrameTaken s).co.state = .coasting from e])
        (by simp only [powerUpOrder, show (withoutGrant (trainFrameTaken s)).co.state = .coasting from e])
  · refine ⟨.inl here, systemOrder changeoverOrder (w :: rest), rfl, ?_⟩
    simp only [systemOrder, show (trainFrameTaken s).co.state = .idle from here, reduceCtorEq, if_false, names hw]
    exact heldOr_congr (by simp only [changeoverOrder, show (trainFrameTaken s).co.state = .idle from here])
      (by simp only [changeoverOrder, show (withoutGrant (trainFrameTaken s)).co.state = .idle from here])
  · refine ⟨.inr here, heldOr sectionClearOrder, rfl, ?_⟩
    exact heldOr_congr
      (by simp only [sectionClearOrder, show (trainFrameTaken s).co.state = .coasting from here,
            show (trainFrameTaken s).co.ordered = some k from ho])
      (by simp only [sectionClearOrder, show (withoutGrant (trainFrameTaken s)).co.state = .coasting from here,
            show (withoutGrant (trainFrameTaken s)).co.ordered = some k from ho])

/-- Settles O45: the orders come to one start, which raises the selected collector or is refused. -/
theorem pathStartsWithASelectedCollector : Obligations.PathStartsWithASelectedCollector := by
  intro s q k w rest cmd code h known form
  obtain ⟨here, order, runs, starts⟩ := path_start known form
  refine ⟨fun none => ?_, fun c a l can best place sole hl => ⟨fun free window risky clear => ?_, fun grant own => ?_⟩⟩
  · rw [runs]
    exact request_refused h (starts.trans (heldOr_startFor_none (s := trainFrameTaken s) none)) nofun q code
  · have begun : startFor k (trainFrameTaken s) = accept (startedState (trainFrameTaken s) k c a window l) [] :=
      (startFor_selected (s := trainFrameTaken s) ⟨can, best⟩).trans (congrArg (fun t => accept t [])
        (startWith_eq (s := trainFrameTaken s) here free can sole place hl (raiseWindowFor_eq risky clear)))
    rw [runs]
    exact request_answered h (starts.trans ((heldOr_free (by exact free)).trans begun)) nofun h.owed q code
  · rw [runs]
    exact request_held h grant
      (starts.trans (heldOr_startFor_held (s := trainFrameTaken s) here grant ⟨can, best⟩ sole place hl own)) q code

end Sys2Proof.Machine

namespace Sys2Proof.Machine

/-! ## Entries to LOWERING (R40) -/

/-- Channel c holds the record x, LOWER stands in its node's slot, and its queued RAISE is withdrawn (R40). -/
def lowered (s : State) (c : Chan) (a : PosAssign) (x : Channel) : State :=
  { s with channels := s.channels.set c x, roof := loweredQueues a.node s.roof }

theorem lowerCore_eq {s : State} {c : Chan} {a : PosAssign} (place : s.positions[s.roleMap[c]].assigned = some a)
    (cause : LowerCause) : lowerCore c cause s = lowered s c a (loweredRecord s cause s.channels[c]) := by
  rw [lowerCore, withdrawRaiseChan_eq (chanNode?_eq (by exact place)), placeAChan_eq (chanNode?_eq (by exact place))]
  rfl

/-- The end of a run (R102). -/
theorem endRun_eq {s : State} {c : Chan} (run : s.scrape.run ≠ .noRun) (chan : s.scrape.chan = some c) (why : EndReason) :
    endRun why s = { s with scrape := runOver s, train := noteNotice (runOverNotice s c why) s.train } := by
  simp only [endRun, run, chan, if_false]
  rfl

/-- The scheduler sees the scrape channel leave RAISING or UP for LOWERING (R101). -/
theorem scrapeOnChannel_lowered {s : State} {c : Chan} {old : ChanState} (run : s.scrape.run ≠ .noRun)
    (chan : s.scrape.chan = some c) (was : old = .raising ∨ old = .up) :
    scrapeOnChannel c old .lowering s =
      { s with scrape := runOver s, train := noteNotice (runOverNotice s c .channel) s.train } := by
  rw [scrapeOnChannel, if_pos ⟨run, chan⟩, if_neg (by simp), if_pos ⟨was, by simp⟩, endRun_eq run chan]

/-! ## A lost collector (R58) -/

/-- A lower request for every channel does nothing where none is raised. -/
theorem lowerAll_none {s : State} (h : ∀ d, raised s d = false) (cause : LowerCause) : lowerAll cause s = s :=
  List.foldl_fixed' (fun d => by simp [lowerRequest, h d]) _

theorem schedulerLowers_noRun {was : State} (h : was.scrape.run = .noRun) (s : State) : schedulerLowers was s = s := by
  unfold schedulerLowers
  split
  · rfl
  · exact if_neg fun run => run.1 h

/-- Entry to IDLE with no channel raised and no run (R74). -/
theorem enterIdle_eq {s : State} (powered : s.co.state ≠ .powered) (noRun : s.scrape.run = .noRun) (rest : ∀ d, raised s d = false) :
    enterIdle s = s.modCo fun r => idleRecord { r with state := .idle } := by
  rw [enterIdle, schedulerLowers_noRun noRun, setCo_eq (st := .idle) powered (by nofun) (.inr noRun)]
  exact lowerAll_none (s := (s.modCo (changeRecord .idle)).modCo idleRecord) rest _

/-- A path that is not closed yet. -/
def OnTheWay (st : CoState) : Prop := st = .raising ∨ st = .recognizing ∨ st = .switching

theorem OnTheWay.powered {st : CoState} (h : OnTheWay st) : st ≠ .powered := by obtain rfl | rfl | rfl := h <;> nofun

theorem OnTheWay.neutral {st : CoState} (h : OnTheWay st) : st ≠ .neutral := by obtain rfl | rfl | rfl := h <;> nofun

theorem coOnChannel_lost {s : State} {c : Chan} {old : ChanState} (collector : s.co.collector = some c) (way : OnTheWay s.co.state)
    (was : old = .raising ∨ old = .up) : coOnChannel c old .lowering s = substituteRaise s := by
  have left : leftRaised old .lowering = true := by simp [leftRaised, was]
  obtain e | e | e := way <;> simp [coOnChannel, collectorLost, collector, e, left]

theorem substituteRaise_idle {s : State} (way : OnTheWay s.co.state) (noRun : s.scrape.run = .noRun)
    (rest : ∀ d, raised s d = false)
    (none : s.co.substituteUsed = true ∨ ∃ k, s.co.active = some k ∧ ∀ d, ¬ CanRaise s k d) :
    substituteRaise s = lostToIdle s s := by
  have idle (t : State) (same : t = s ∨ t = s.modCo fun r => { r with substituteUsed := true, phase := .none }) :
      noSubstitute t = lostToIdle s s := by
    obtain rfl | rfl := same
    · rw [noSubstitute, enterIdle_eq way.powered noRun rest]; rfl
    · rw [noSubstitute, enterIdle_eq (by exact way.powered) (by exact noRun) (by exact rest)]; rfl
  unfold substituteRaise
  split
  case isTrue => exact idle s (.inl rfl)
  case isFalse fresh =>
    obtain used | ⟨k, active, none⟩ := none
    · exact absurd used fresh
    · have select : collectSelect (s.modCo fun r => { r with substituteUsed := true, phase := .none }) k = .none :=
        collectSelect_eq_none (by exact none)
      simp only [show (s.modCo fun r => { r with substituteUsed := true, phase := .none }).co.active = some k from active,
        Option.bind_some, select]
      exact idle _ (.inr rfl)

theorem substituteRaise_selected {s : State} {k : SysId} {d : Chan} {b : PosAssign} {window : Nat} {l : List BEntry}
    (way : OnTheWay s.co.state) (active : s.co.active = some k) (fresh : s.co.substituteUsed = false) (free : granted s = false)
    (selected : Selected s k d) (place : s.positions[s.roleMap[d]].assigned = some b)
    (sole : ∀ x, x ≠ d → ¬ (raised s x = true ∧ s.channels[x].duty = .collect)) (hw : raiseWindowFor s d = window)
    (hl : insertB ⟨b.node, .raise d, s.serial⟩ s.roof.classB = some l) :
    substituteRaise s = lostToSubstitute s d b window l := by
  generalize marked : (s.modCo fun r => { r with substituteUsed := true, phase := .none }) = t
  have select : collectSelect t k = some d := by subst marked; exact collectSelect_of_selected (by exact selected)
  have still : t.co.active = some k := by subst marked; exact active
  generalize taken : (t.modCo fun r => { r with collector := some d }) = u
  have raises : raiseRequest d .collect u = raisedState u d b .collect window l := by
    subst taken marked; exact raiseRequest_eq (k := k) active free selected.1 sole place hl hw
  simp only [substituteRaise, fresh, Bool.false_eq_true, if_false, marked, still, Option.bind_some, select, taken, raises]
  subst taken marked
  exact setCo_state .raising way.powered way.neutral nofun (.inl rfl)

/-! ## The hand-on of a lowering (R45) -/

section
variable {s : State} {c : Chan} {a : PosAssign} {x : Channel} {T : Train} {k : SysId}

/-- What a channel that has left RAISING or UP for LOWERING is handed to: first the scheduler, then the controller (R45). -/
def handedOn (c : Chan) (old : ChanState) (s : State) : State := coOnChannel c old .lowering (scrapeOnChannel c old .lowering s)

theorem handedOn_other (collector : s.co.collector ≠ some c) (chan : s.scrape.chan ≠ some c) (old : ChanState) :
    handedOn c old { lowered s c a x with train := T } = { lowered s c a x with train := T } := by
  rw [handedOn, scrapeOnChannel_other (by exact chan), coOnChannel_other (by exact collector)]

theorem handedOn_scrape (collector : s.co.collector ≠ some c) (chan : s.scrape.chan = some c) (run : s.scrape.run ≠ .noRun)
    {old : ChanState} (was : old = .raising ∨ old = .up) : handedOn c old { lowered s c a x with train := T } =
      { lowered s c a x with scrape := runOver s, train := noteNotice (runOverNotice s c .channel) T } := by
  rw [handedOn, scrapeOnChannel_lowered (by exact run) (by exact chan) was, coOnChannel_other (by exact collector)]
  rfl

theorem lowered_get_self : (lowered s c a x).channels[c] = x := by simp [lowered]

theorem lowered_get_other {d : Chan} (h : d ≠ c) : (lowered s c a x).channels[d] = s.channels[d] :=
  upd_other s.channels (fun _ => x) h.symm

theorem raised_lowered (hx : x.state = .lowering) (d : Chan) : raised (lowered s c a x) d = (decide (d ≠ c) && raised s d) := by
  by_cases h : d = c
  · subst h
    simp only [raised, lowered_get_self, hx]; simp
  · simp only [raised, lowered_get_other h, decide_true, Bool.true_and, ne_eq, h, not_false_eq_true]

/-- A lowering leaves every other channel as eligible as before, and its own was not eligible. -/
theorem canRaise_lowered (hx : x.state = .lowering) (was : s.channels[c].state = .raising ∨ s.channels[c].state = .up) (d : Chan) :
    CanRaise { lowered s c a x with train := T } k d ↔ CanRaise s k d := by
  by_cases h : d = c
  · subst h
    have now : ¬ CanRaise { lowered s d a x with train := T } k d := fun can => by
      have down : (lowered s d a x).channels[d].state = .down := can.1
      rw [lowered_get_self, hx] at down; cases down
    have before : ¬ CanRaise s k d := fun can => by
      obtain e | e := was <;> exact nomatch e.symm.trans can.1
    exact iff_of_false now before
  · have same : ({ lowered s c a x with train := T } : State).channels[d] = s.channels[d] :=
      lowered_get_other (a := a) h
    exact and_congr_left' (by rw [same])

theorem selected_lowered (hx : x.state = .lowering) (was : s.channels[c].state = .raising ∨ s.channels[c].state = .up) {d : Chan}
    (h : Selected s k d) : Selected { lowered s c a x with train := T } k d := by
  simp only [Selected, canRaise_lowered hx was]
  exact h

theorem handedOn_idle (hx : x.state = .lowering) (h : Collects s c k) (none : NoSubstitute s c k) :
    handedOn c s.channels[c].state { lowered s c a x with train := T } = lostToIdle s { lowered s c a x with train := T } := by
  rw [handedOn, scrapeOnChannel_other (by exact h.run), coOnChannel_lost (by exact h.collector) (by exact h.state) h.raised]
  refine substituteRaise_idle (by exact h.state) (by exact none.noRun) (fun d => ?_)
    (none.none.imp_right fun no => ⟨k, h.active, fun d => mt (canRaise_lowered hx h.raised d).1 (no d)⟩)
  refine (raised_lowered (a := a) hx d).trans ?_
  by_cases e : d = c
  · simp [e]
  · simp [none.alone d e]

theorem handedOn_substitute (hx : x.state = .lowering) (h : Collects s c k) {d : Chan} {b : PosAssign} {window : Nat}
    {l : List BEntry} (sub : Substitute s c k d b window)
    (hl : insertB ⟨b.node, .raise d, s.serial⟩ (loweredQueues a.node s.roof).classB = some l) :
    handedOn c s.channels[c].state { lowered s c a x with train := T } =
      lostToSubstitute { lowered s c a x with train := T } d b window l := by
  rw [handedOn, scrapeOnChannel_other (by exact h.run), coOnChannel_lost (by exact h.collector) (by exact h.state) h.raised]
  refine substituteRaise_selected (k := k) (by exact h.state) (by exact h.active) (by exact sub.fresh) (by exact sub.free)
    (selected_lowered hx h.raised sub.selected) (by exact sub.place) (fun y _ raising => ?_)
    (raiseWindowFor_eq (by exact sub.risky) (by exact sub.clear)) (by exact hl)
  by_cases e : y = c
  · subst e
    have no : raised (lowered s y a x) y = true := raising.1
    rw [raised_lowered hx] at no; simp at no
  · refine sub.sole y e ⟨?_, ?_⟩
    · have now : raised (lowered s c a x) y = true := raising.1
      rw [raised_lowered hx] at now; simpa [e] using now
    · have now : (lowered s c a x).channels[y].duty = .collect := raising.2
      rwa [lowered_get_other e] at now

end

end Sys2Proof.Machine

namespace Sys2Proof.Machine

/-! ## Scrape runs (R98 to R102) -/

theorem scrapeEligible_iff (s : State) (k : SysId) (d : Chan) :
    decide (eligible s k d = true ∧ s.channels[d].duty ≠ .collect) = true ↔ CanRaise s k d ∧ s.channels[d].duty ≠ .collect := by
  rw [decide_eq_true_eq, eligible_iff]

/-- Scrape selection: the highest-numbered eligible channel (R29). -/
theorem scrapeSelect_eq {s : State} {k : SysId} {d : Chan} (can : CanRaise s k d) (duty : s.channels[d].duty ≠ .collect)
    (last : ∀ x, d < x → ¬ (CanRaise s k x ∧ s.channels[x].duty ≠ .collect)) : scrapeSelect s k = some d :=
  getLast?_filter_finRange ((scrapeEligible_iff ..).2 ⟨can, duty⟩) fun x hx =>
    Bool.eq_false_iff.2 (mt (scrapeEligible_iff ..).1 (last x hx))

theorem scrapeSelect_eq_none {s : State} {k : SysId} (h : ∀ d, ¬ (CanRaise s k d ∧ s.channels[d].duty ≠ .collect)) :
    scrapeSelect s k = none := by
  rw [scrapeSelect, List.filter_eq_nil_iff.2 fun d _ => mt (scrapeEligible_iff ..).1 (h d), List.getLast?_nil]

/-- A run with no strip zone starts: the raise alone, since nothing is forced (R99, R100). -/
theorem startRun_eq {s : State} {k : SysId} {c : Chan} {a : PosAssign} {l : List BEntry} (active : s.co.active = some k)
    (free : granted s = false) (can : CanRaise s k c) (sole : ∀ d, d ≠ c → ¬ (raised s d = true ∧ s.channels[d].duty = .scrape))
    (place : s.positions[s.roleMap[c]].assigned = some a) (strip : a.strip = none)
    (hl : insertB ⟨a.node, .raise c, s.serial⟩ s.roof.classB = some l) (o : Origin) :
    startRun c o s = { raisedState s c a .scrape s.settings.raiseWindow l with
      scrape := { s.scrape with run := .raising, chan := some c, origin := o } } := by
  have calm : ¬ AtRisk s c := by
    rintro ⟨b, z, hb, hz, _⟩
    cases place.symm.trans hb; cases strip.symm.trans hz
  generalize begun : (s.modScrape fun r => { r with run := .raising, chan := some c, origin := o }) = t
  have raises : raiseRequest c .scrape t = raisedState t c a .scrape s.settings.raiseWindow l := by
    subst begun
    exact raiseRequest_eq (k := k) active free can sole place hl
      (raiseWindowFor_eq (fun risk => absurd (show AtRisk s c from risk) calm) fun _ => rfl)
  have bound : assignOf (raisedState t c a .scrape s.settings.raiseWindow l) c = some a := by subst begun; exact place
  simp only [startRun, begun, raises, bound, Option.bind_some, strip, forceStrip]
  subst begun
  rfl

/-- The end of a run of a raised channel that is not the collector, and the scheduler's lower request for it (R101, R102). -/
theorem endRunAndLower_eq {s : State} {c : Chan} {a : PosAssign} (run : s.scrape.run ≠ .noRun) (chan : s.scrape.chan = some c)
    (up : raised s c = true) (collector : s.co.collector ≠ some c) (place : s.positions[s.roleMap[c]].assigned = some a)
    (why : EndReason) : endRunAndLower why s = { lowered s c a (loweredRecord s .scrapeEnd s.channels[c]) with
      scrape := runOver s, train := noteNotice (runOverNotice s c why) s.train } := by
  rw [endRunAndLower, chan]
  dsimp only
  rw [endRun_eq run chan]
  generalize ended : ({ s with scrape := runOver s, train := noteNotice (runOverNotice s c why) s.train } : State) = t
  have lowers : lowerByOther c .scrapeEnd t = handedOn c t.channels[c].state (lowerCore c .scrapeEnd t) :=
    if_pos (by subst ended; exact up)
  have core : lowerCore c .scrapeEnd t = lowered t c a (loweredRecord t .scrapeEnd t.channels[c]) :=
    lowerCore_eq (by subst ended; exact place) _
  rw [lowers, core]
  have handed := handedOn_other (s := t) (c := c) (a := a) (x := loweredRecord t .scrapeEnd t.channels[c]) (T := t.train)
    (by subst ended; exact collector) (by subst ended; exact Option.some_ne_none c ∘ Eq.symm) t.channels[c].state
  refine Eq.trans handed ?_
  subst ended
  rfl

theorem scrapeOrder_refused {s : State} (run : s.scrape.run = .noRun) (off : s.co.state ≠ .powered ∨ s.iceSeason = false) :
    scrapeOrder s = refuse s .refusedState := by
  rw [scrapeOrder, if_neg (not_not.2 run), if_pos (off.imp_right fun e => by rw [Bool.not_eq_true]; exact e)]

section
variable {s : State} {k : SysId} (run : s.scrape.run = .noRun) (powered : s.co.state = .powered) (season : s.iceSeason = true)
  (active : s.co.active = some k)
include run powered season active

theorem scrapeOrder_noCollector (select : scrapeSelect s k = none) : scrapeOrder s = refuse s .noCollector := by
  rw [scrapeOrder, if_neg (not_not.2 run), if_neg (not_or.2 ⟨not_not.2 powered, not_not.2 season⟩), active, Option.bind_some, select]

theorem scrapeOrder_starts {c : Chan} (select : scrapeSelect s k = some c) :
    scrapeOrder s = accept (startRun c .order s) [word (number c)] := by
  rw [scrapeOrder, if_neg (not_not.2 run), if_neg (not_or.2 ⟨not_not.2 powered, not_not.2 season⟩), active, Option.bind_some, select]

end

/-- Settles O50: SCRAPE asks for a run, and the scrape timer ends one. -/
theorem scrapeRunsStartAndEnd : Obligations.ScrapeRunsStartAndEnd := by
  intro s ho
  refine ⟨fun q rest k h => ⟨fun run => ?_, fun run off => ?_, fun run powered season active => ?_⟩, fun stopped => ?_,
    fun c a runs run chan up collector place => ?_⟩
  · exact request_accepted h (if_pos run) q 27
  · exact request_refused h (scrapeOrder_refused (s := trainFrameTaken s) run off) nofun q 27
  · refine ⟨fun none => ?_, fun c a l can last free place strip sole hl => ?_⟩
    · have select : scrapeSelect (trainFrameTaken s) k = .none :=
        scrapeSelect_eq_none (s := trainFrameTaken s) fun d can => none d ⟨can.1.1, can.2, can.1.2⟩
      exact request_refused h (scrapeOrder_noCollector (s := trainFrameTaken s) run powered season active select) nofun q 27
    · have select : scrapeSelect (trainFrameTaken s) k = some c := scrapeSelect_eq (s := trainFrameTaken s) ⟨can.1, can.2.2⟩ can.2.1
        fun x hx other => last x hx ⟨other.1.1, other.2, other.1.2⟩
      exact request_answered h ((scrapeOrder_starts (s := trainFrameTaken s) run powered season active select).trans
        (congrArg (fun t => accept t [word (number c)])
          (startRun_eq (s := trainFrameTaken s) active free ⟨can.1, can.2.2⟩ sole place strip hl .order))) nofun h.owed q 27
  · refine react_eq_of ?_ ho
    rw [expireScrape, stopped]; rfl
  · have ends : expireScrape s = endRunAndLower .duration s := if_pos (Option.isSome_iff_ne_none.2 runs)
    exact react_eq_of (ends.trans (endRunAndLower_eq run chan ((raised_iff ..).2 (.inr up)) collector place .duration)) ho

end Sys2Proof.Machine

namespace Sys2Proof.Machine

/-! ## Channel orders (R46, R48, R162) -/

theorem liveCollector_iff (s : State) (c : Chan) : liveCollector s c = true ↔ s.channels[c].duty = .collect ∧
    (s.co.state = .closing ∨ s.co.state = .powered ∨ s.co.state = .neutral) := by
  rw [liveCollector, decide_eq_true_eq]

theorem channelOrder_eq {w : Word} {c : Chan} (h : w.toNat = number c) (act : Chan → State → Reply) (rest : List Word) (s : State) :
    channelOrder act (w :: rest) s = act c s := by
  simp only [channelOrder, h, numbered?_number]

/-- A channel has become DOWN from a state in which the pan was at rest already: no hand-on (R43, R45). -/
theorem coOnChannel_down {s : State} {c : Chan} {old : ChanState} (was : old = .cooldown ∨ old = .locked)
    (away : s.co.collector = some c → s.co.state ≠ .lowering) : coOnChannel c old .down s = s := by
  have stays : leftRaised old .down = false := by obtain rfl | rfl := was <;> rfl
  unfold coOnChannel
  split
  · rfl
  next mine => simp [away (not_not.1 mine), stays]

/-- A LOCKED channel that enters LOWERING is handed on to no one (R45, R101). -/
theorem handedOn_locked (s : State) (c : Chan) : handedOn c .locked s = s := by
  have scrape : scrapeOnChannel c .locked .lowering s = s := by simp [scrapeOnChannel]
  rw [handedOn, scrape]
  simp [coOnChannel, leftRaised]

section
variable {s : State} {c : Chan} {a : PosAssign}

/-- The channel's record with counter and last fault cleared (R48). -/
def cleanRecord (r : Channel) : Channel := { r with counter := 0, lastFault := .noFault }

/-- The state in which channel c holds the record x and its node's class A slot is empty (R48). -/
def freed (s : State) (c : Chan) (a : PosAssign) (x : Channel) : State :=
  { s with channels := s.channels.set c x, roof := { s.roof with classA := s.roof.classA.set a.node none } }

theorem resetCore_eq (place : s.positions[s.roleMap[c]].assigned = some a) :
    resetCore c s = freed s c a (cleanRecord s.channels[c]) := by
  have node := chanNode?_eq (s := s.modChan c fun r => { r with counter := 0, lastFault := .noFault }) (c := c) (a := a) place
  rw [resetCore]
  simp only [node]
  rfl

theorem resetCore_unbound (place : s.positions[s.roleMap[c]].assigned = none) : resetCore c s = s.modChan c cleanRecord := by
  have node := chanNode?_eq_none (s := s.modChan c fun r => { r with counter := 0, lastFault := .noFault }) (c := c) place
  rw [resetCore]
  simp only [node]
  rfl

theorem freed_get_self {x : Channel} : (freed s c a x).channels[c] = x := by simp [freed]

theorem modChan_freed {x : Channel} (f : Channel → Channel) : (freed s c a x).modChan c f = freed s c a (f x) := by
  simp only [freed, State.modChan, upd, Vector.set_set]
  simp

/-- LOWER takes the slot that the reset has emptied. -/
theorem lowered_freed {x y : Channel} : lowered (freed s c a y) c a x = lowered s c a x := by
  simp only [lowered, freed, loweredQueues, Vector.set_set]

theorem resetCore_state (c : Chan) (s : State) : (resetCore c s).channels[c].state = s.channels[c].state := by
  have kept : (s.modChan c cleanRecord).channels[c].state = s.channels[c].state := by
    rw [State.modChan_channels, upd_self]; rfl
  rw [resetCore]
  split <;> exact kept

theorem becomeDown_eq (was : s.channels[c].state = .cooldown ∨ s.channels[c].state = .locked)
    (away : s.co.collector = some c → s.co.state ≠ .lowering) : becomeDown c s = s.modChan c (restRecord .down none) :=
  coOnChannel_down was (by exact away)

/-- A reset that leaves the pan where it is (R48). -/
theorem resetLowers_eq_false (h : s.channels[c].state = .down ∨ s.channels[c].state = .cooldown ∨ s.channels[c].state = .lowering ∨
    s.channels[c].state = .locked ∧ (s.positions[s.roleMap[c]].assigned = none ∨ s.positions[s.roleMap[c]].lastPos = some .down)) :
    resetLowers s c = false := by
  have unraised : raised s c = false := by
    rw [← Bool.not_eq_true, raised_iff]; obtain e | e | e | ⟨e, _⟩ := h <;> rw [e] <;> simp
  rw [resetLowers, unraised, Bool.false_or]
  obtain e | e | e | ⟨e, rests⟩ := h
  case inr.inr.inr =>
    have rest : chanAtRest s c = true := by
      simp only [chanAtRest, e, assignOf, posOf, Bool.or_eq_true, Option.isNone_iff_eq_none]
      exact rests.imp_right decide_eq_true
    rw [rest, Bool.not_true, Bool.and_false]
  all_goals rw [e]; rfl

theorem resetLowers_locked (place : s.positions[s.roleMap[c]].assigned = some a) (locked : s.channels[c].state = .locked)
    (out : s.positions[s.roleMap[c]].lastPos ≠ some .down) : resetLowers s c = true := by
  have moves : chanAtRest s c = false := by simp only [chanAtRest, locked, assignOf, posOf, place, out]; rfl
  rw [resetLowers, moves, locked]
  simp

/-! ### A reset by the channel's state (R48) -/

theorem resetChannel_down (h : s.channels[c].state = .down) : resetChannel c s = resetCore c s := by
  simp only [resetChannel, (resetCore_state c s).trans h]

theorem resetChannel_lowering (h : s.channels[c].state = .lowering) :
    resetChannel c s = (resetCore c s).modChan c fun r => { r with cause := some .reset } := by
  simp only [resetChannel, (resetCore_state c s).trans h]

theorem resetCore_co (c : Chan) (s : State) : (resetCore c s).co = s.co := by
  rw [resetCore]; split <;> rfl

/-- A resting channel is freed (R48). -/
theorem resetChannel_rests (away : s.co.collector = some c → s.co.state ≠ .lowering) (h : s.channels[c].state = .cooldown ∨
    s.channels[c].state = .locked ∧ (s.positions[s.roleMap[c]].assigned = none ∨ s.positions[s.roleMap[c]].lastPos = some .down)) :
    resetChannel c s = (resetCore c s).modChan c (restRecord .down none) := by
  have stays : resetLowers s c = false := resetLowers_eq_false (.inr (h.imp_right .inr))
  have becomes : becomeDown c (resetCore c s) = (resetCore c s).modChan c (restRecord .down none) := by
    refine becomeDown_eq ?_ (by rw [resetCore_co]; exact away)
    rw [resetCore_state]; exact h.imp_right And.left
  obtain e | ⟨e, _⟩ := h
  · simp only [resetChannel, (resetCore_state c s).trans e, becomes]
  · simp only [resetChannel, (resetCore_state c s).trans e, stays, Bool.false_eq_true, if_false, becomes]

/-- A LOCKED channel that is not reported DOWN is lowered (R48). -/
theorem resetChannel_locked (place : s.positions[s.roleMap[c]].assigned = some a) (locked : s.channels[c].state = .locked)
    (out : s.positions[s.roleMap[c]].lastPos ≠ some .down) :
    resetChannel c s = lowered s c a (loweredRecord s .reset (cleanRecord s.channels[c])) := by
  have st := (resetCore_state c s).trans locked
  have hands : resetChannel c s = handedOn c .locked (lowerCore c .reset (resetCore c s)) := by
    simp only [resetChannel, st, resetLowers_locked place locked out, if_true, handedOn, enterLowering]
  rw [hands, handedOn_locked, resetCore_eq place, lowerCore_eq (by exact place), lowered_freed, freed_get_self]
  rfl

/-- A raised channel is lowered and handed on (R48). -/
theorem resetChannel_raised (place : s.positions[s.roleMap[c]].assigned = some a)
    (up : s.channels[c].state = .raising ∨ s.channels[c].state = .up) : resetChannel c s =
      handedOn c s.channels[c].state (lowered s c a (loweredRecord s .reset (cleanRecord s.channels[c]))) := by
  have lowers : resetChannel c s = lowerByOther c .reset (resetCore c s) := by
    obtain e | e := up <;> simp only [resetChannel, (resetCore_state c s).trans e]
  have still : raised (resetCore c s) c = true := by rw [raised_iff, resetCore_state]; exact up
  have hands : lowerByOther c .reset (resetCore c s) =
      handedOn c (resetCore c s).channels[c].state (lowerCore c .reset (resetCore c s)) := if_pos still
  rw [lowers, hands, resetCore_state, resetCore_eq place, lowerCore_eq (by exact place), lowered_freed, freed_get_self]
  rfl

theorem lowerByOther_raised (place : s.positions[s.roleMap[c]].assigned = some a) (up : raised s c = true) (cause : LowerCause) :
    lowerByOther c cause s = handedOn c s.channels[c].state (lowered s c a (loweredRecord s cause s.channels[c])) := by
  have hands : lowerByOther c cause s = handedOn c s.channels[c].state (lowerCore c cause s) := if_pos up
  rw [hands, lowerCore_eq place]

/-! ### The orders' own checks (R48, R121, R162) -/

theorem channelReset_live (live : liveCollector s c = true) : channelResetOrder c s = refuse s .refusedState := if_pos live

theorem channelLower_live (live : liveCollector s c = true) : channelLowerOrder c s = refuse s .refusedState := if_pos live

theorem channelReset_accepted (dead : liveCollector s c = false) (free : granted s = false ∨ resetLowers s c = false) :
    channelResetOrder c s = accept (resetChannel c s) [] := by
  rw [channelResetOrder, dead, if_neg (by simp), if_neg]
  rintro ⟨grant, lowers⟩
  obtain e | e := free
  · rw [e] at grant; cases grant
  · rw [e] at lowers; cases lowers

theorem channelReset_held (dead : liveCollector s c = false) (grant : granted s = true) (lowers : resetLowers s c = true) :
    channelResetOrder c s = refuse s .held := by
  rw [channelResetOrder, dead, if_neg (by simp), if_pos ⟨grant, lowers⟩]

theorem channelLower_resting (dead : liveCollector s c = false) (still : moving s c = false) :
    channelLowerOrder c s = refuse s .refusedState := by
  have unraised : raised s c = false := by
    simp only [moving, decide_eq_false_iff_not, not_or, Bool.not_eq_true] at still; exact still.1
  rw [channelLowerOrder, dead, if_neg (by simp), unraised, if_neg (by simp), lowerAnswer, still]
  rfl

theorem channelLower_moving (dead : liveCollector s c = false) (free : granted s = false ∨ raised s c = false)
    (moves : moving s c = true) : channelLowerOrder c s = accept (lowerByOther c .order s) [] := by
  rw [channelLowerOrder, dead, if_neg (by simp), if_neg, lowerAnswer, moves]
  · rfl
  rintro ⟨grant, up⟩
  obtain e | e := free
  · rw [e] at grant; cases grant
  · rw [e] at up; cases up

theorem channelLower_held (dead : liveCollector s c = false) (grant : granted s = true) (up : raised s c = true) :
    channelLowerOrder c s = refuse s .held := by
  rw [channelLowerOrder, dead, if_neg (by simp), if_pos ⟨grant, up⟩]

end

end Sys2Proof.Machine

namespace Sys2Proof.Machine

/-! ## The gate that closes with no zone HEATING (R88, R89) -/

theorem closeGate_eq {s : State} (cold : ∀ z : Zone, s.zones[z].state ≠ .heating) : closeGate s = { s with stagger := none } := by
  have still : (List.finRange 10).foldl (fun s z => if s.zones[z].state = .heating then pauseZone z s else s) s = s :=
    List.foldl_fixed' (fun z => if_neg (cold z)) _
  rw [closeGate, still]

/-- A change to a state other than POWERED with no zone HEATING, and no run that it ends (R52, R88, R101). -/
theorem setCo_cold {s : State} {st : CoState} (cold : ∀ z : Zone, s.zones[z].state ≠ .heating) (there : st ≠ .powered)
    (run : endsRun st = false ∨ s.scrape.run = .noRun) : setCo st s =
      { s with co := changeRecord st s.co, stagger := if gateOpen s = true then none else s.stagger } := by
  have shut : gateOpen (s.modCo (changeRecord st)) = false := gateOpen_eq_false (s := s.modCo (changeRecord st)) there
  have gate : gateChange (gateOpen s) (s.modCo (changeRecord st)) =
      { s with co := changeRecord st s.co, stagger := if gateOpen s = true then none else s.stagger } := by
    cases open_ : gateOpen s with
    | false => exact gateChange_same shut
    | true =>
      have closes : gateChange true (s.modCo (changeRecord st)) = closeGate (s.modCo (changeRecord st)) := by
        simp only [gateChange, shut, Bool.not_false, Bool.and_self, if_true]
      rw [closes, closeGate_eq (by exact cold)]
      rfl
  simp only [setCo, gate]
  split
  case isTrue ends =>
    obtain e | e := run
    · rw [ends] at e; cases e
    · exact endRun_noRun (by exact e) _
  case isFalse => rfl

/-- OPEN takes the breaker's slot, whatever stood in it (R67, R125, R134). -/
theorem breaker_opens {s : State} {b : Node} (hb : nodeOf? s .breaker = some b) : placeABreaker .opn (breakerSustainOff s) =
    { s with co := { s.co with sustain := none }, roof := { s.roof with classA := s.roof.classA.set b (some .opn) } } := by
  have sustained : nodeOf? (s.modCo fun r => { r with sustain := none }) .breaker = some b := hb
  have breaker : nodeOf? (removeSustain b (s.modCo fun r => { r with sustain := none })) .breaker = some b := hb
  simp only [breakerSustainOff, sustained, placeABreaker, breaker]
  have slot : upd (upd s.roof.classA b fun h => if h = some .sustain then none else h) b (slotAfter .opn) =
      s.roof.classA.set b (some .opn) := by
    rw [upd_upd]; rfl
  simp only [← slot]
  rfl

/-- OPENING is entered from POWERED with no zone HEATING (R66, R67). -/
theorem enterOpening_eq {s : State} {b : Node} (powered : s.co.state = .powered) (cold : ∀ z : Zone, s.zones[z].state ≠ .heating)
    (hb : nodeOf? s .breaker = some b) (plan : Plan) : enterOpening plan s = { s with
      co := { s.co with
        state := .opening, plan := plan, sustain := none, tripQuiet := none, phase := some (.openWindow, s.settings.openWindow) }
      stagger := if gateOpen s = true then none else s.stagger
      roof := { s.roof with classA := s.roof.classA.set b (some .opn) } } := by
  have leaves : changeRecord .opening s.co = { s.co with state := .opening, tripQuiet := none } := by
    simp [changeRecord, powered]
  rw [enterOpening, setCo_cold (st := .opening) cold (by nofun) (.inl rfl), leaves]
  simp only
  rw [breaker_opens (b := b) (by exact hb)]
  rfl

/-! ## Orders by channel and by grade -/

theorem filter_finRange_sole {n : Nat} {p : Fin n → Bool} {c : Fin n} (h : ∀ d, p d = true ↔ d = c) :
    (List.finRange n).filter p = [c] := by
  have only : p = fun d => decide (d = c) := funext fun d => by rw [Bool.eq_iff_iff, h, decide_eq_true_eq]
  rw [only, List.filter_eq, List.count_eq_one_of_mem (List.nodup_finRange n) (List.mem_finRange c)]
  rfl

theorem chanSet_sole {p : Chan → Bool} {c : Chan} (h : ∀ d, p d = true ↔ d = c) : chanSet p = BitVec.ofNat 16 (2 ^ c.val) := by
  have only : p = fun d => decide (d = c) := funext fun d => by rw [Bool.eq_iff_iff, h, decide_eq_true_eq]
  have sets : ∀ c : Chan, chanSet (fun d => decide (d = c)) = BitVec.ofNat 16 (2 ^ c.val) := by decide
  rw [only, sets]

theorem chanSet_empty {p : Chan → Bool} (h : ∀ d, p d = false) : chanSet p = 0 := by
  rw [show p = fun _ => false from funext h]; decide

section
variable {s : State} {c : Chan} {a : PosAssign}

theorem gradeSelects_iff (s : State) (g : Nat) (d : Chan) :
    gradeSelects s g d = true ↔ raised s d = true ∧ g ≤ s.channels[d].rank := by
  rw [gradeSelects, decide_eq_true_eq]

/-- A graded lowering of one channel that is not the collector (R46). -/
theorem gradedLowering_other {g : Nat} (sole : ∀ d, (raised s d = true ∧ g ≤ s.channels[d].rank) ↔ d = c)
    (duty : s.channels[c].duty ≠ .collect) : gradedLowering g s = lowerByOther c .graded s := by
  have chosen : ((List.finRange 4).filter fun d => gradeSelects s g d) = [c] :=
    filter_finRange_sole fun d => (gradeSelects_iff ..).trans (sole d)
  simp only [gradedLowering, chosen, List.filter_cons, List.filter_nil, duty, List.any_cons, List.any_nil, ne_eq, not_false_eq_true,
    decide_true, decide_false, if_true, List.foldl_cons, List.foldl_nil, Bool.or_false, Bool.false_eq_true, if_false]

/-- A graded lowering of the collector alone (R46, R77). -/
theorem gradedLowering_collector {g : Nat} (sole : ∀ d, (raised s d = true ∧ g ≤ s.channels[d].rank) ↔ d = c)
    (duty : s.channels[c].duty = .collect) : gradedLowering g s = gradedCollector s := by
  have chosen : ((List.finRange 4).filter fun d => gradeSelects s g d) = [c] :=
    filter_finRange_sole fun d => (gradeSelects_iff ..).trans (sole d)
  simp only [gradedLowering, chosen, List.filter_cons, List.filter_nil, duty, List.any_cons, List.any_nil, ne_eq, not_true_eq_false,
    decide_true, decide_false, if_true, List.foldl_nil, Bool.true_or, Bool.false_eq_true, if_false]

theorem gradedLowering_none {g : Nat} (none : ∀ d, ¬ (raised s d = true ∧ g ≤ s.channels[d].rank)) : gradedLowering g s = s := by
  have chosen : ((List.finRange 4).filter fun d => gradeSelects s g d) = [] :=
    List.filter_eq_nil_iff.2 fun d _ => mt (gradeSelects_iff ..).1 (none d)
  simp [gradedLowering, chosen]

theorem gradedCollector_powered (powered : s.co.state = .powered) :
    gradedCollector s = enterOpening .coasting (s.modCo fun r => { r with graded := true }) := by
  simp only [gradedCollector, show (s.modCo fun r => { r with graded := true }).co.state = .powered from powered]

section
variable {g : Word} (low : 1 ≤ g.toNat) (high : g.toNat ≤ 7) (rest : List Word)
include low high

theorem loweringOrder_none (none : ∀ d, ¬ (raised s d = true ∧ g.toNat ≤ s.channels[d].rank)) :
    loweringOrderReply (g :: rest) s = accept s [0] := by
  have chosen : chanSet (gradeSelects s g.toNat) = 0 :=
    chanSet_empty fun d => Bool.eq_false_iff.2 (mt (gradeSelects_iff ..).1 (none d))
  have answers : loweringOrderReply (g :: rest) s = accept (gradedLowering g.toNat s) [chanSet (gradeSelects s g.toNat)] :=
    if_pos ⟨low, high⟩
  rw [answers, gradedLowering_none none, chosen]

theorem loweringOrder_sole (sole : ∀ d, (raised s d = true ∧ g.toNat ≤ s.channels[d].rank) ↔ d = c) :
    loweringOrderReply (g :: rest) s = accept (gradedLowering g.toNat s) [BitVec.ofNat 16 (2 ^ c.val)] := by
  rw [← chanSet_sole fun d => (gradeSelects_iff s g.toNat d).trans (sole d)]
  exact if_pos ⟨low, high⟩

end

theorem loweringOrder_bad {g : Word} (bad : g.toNat = 0 ∨ 7 < g.toNat) (rest : List Word) (s : State) :
    loweringOrderReply (g :: rest) s = refuse s .badEntry := if_neg (by omega)

theorem exec_channelLower {w : Word} (hw : w.toNat = number c) (q : Byte) (rest : List Word) (s : State) :
    exec (.channelLower q (w :: rest)) s = react (manage q 24 (channelLowerOrder c)) s :=
  congrArg (fun order => react (manage q 24 order) s) (funext fun t => channelOrder_eq hw channelLowerOrder rest t)

theorem exec_channelReset {w : Word} (hw : w.toNat = number c) (q : Byte) (rest : List Word) (s : State) :
    exec (.channelReset q (w :: rest)) s = react (manage q 23 (channelResetOrder c)) s :=
  congrArg (fun order => react (manage q 23 order) s) (funext fun t => channelOrder_eq hw channelResetOrder rest t)

end

/-- What a lowered channel is handed to depends on its part in the path (R45, R58, R101); `goes` is what the order makes of the state
that the hand-on leaves. -/
theorem handedOn_cases {s : State} {c : Chan} {a : PosAssign} {x : Channel} {T : Train} (hx : x.state = .lowering)
    (up : s.channels[c].state = .raising ∨ s.channels[c].state = .up) {goes : State → Prop}
    (h : goes (handedOn c s.channels[c].state { lowered s c a x with train := T })) :
    (s.co.collector ≠ some c → s.scrape.chan ≠ some c → goes { lowered s c a x with train := T }) ∧
    (s.co.collector ≠ some c → s.scrape.chan = some c → s.scrape.run ≠ .noRun →
      goes { lowered s c a x with scrape := runOver s, train := noteNotice (runOverNotice s c .channel) T }) ∧
    (∀ k, Collects s c k →
      (NoSubstitute s c k → goes (lostToIdle s { lowered s c a x with train := T })) ∧
      (∀ d b window l, Substitute s c k d b window →
        insertB ⟨b.node, .raise d, s.serial⟩ (loweredQueues a.node s.roof).classB = some l →
        goes (lostToSubstitute { lowered s c a x with train := T } d b window l))) := by
  refine ⟨fun other free => ?_, fun other mine run => ?_, fun k mine => ⟨fun none => ?_, fun d b window l sub hl => ?_⟩⟩
  · rwa [handedOn_other other free] at h
  · rwa [handedOn_scrape other mine run up] at h
  · rwa [handedOn_idle hx mine none] at h
  · rwa [handedOn_substitute hx mine sub hl] at h

/-! A frame that is taken leaves the path and its channels as they are (R154). -/

theorem Collects.heard {s : State} {c : Chan} {k : SysId} (h : Collects s c k) : Collects (trainFrameTaken s) c k :=
  ⟨h.raised, h.collector, h.state, h.active, h.run⟩

theorem NoSubstitute.heard {s : State} {c : Chan} {k : SysId} (h : NoSubstitute s c k) : NoSubstitute (trainFrameTaken s) c k :=
  ⟨h.none, h.alone, h.noRun⟩

theorem Substitute.heard {s : State} {c : Chan} {k : SysId} {d : Chan} {b : PosAssign} {window : Nat}
    (h : Substitute s c k d b window) : Substitute (trainFrameTaken s) c k d b window :=
  ⟨h.free, h.fresh, h.selected, h.place, h.sole, h.risky, h.clear⟩

theorem moving_eq_true {s : State} {c : Chan} (h : raised s c = true ∨ s.channels[c].state = .lowering) : moving s c = true := by
  rw [moving, decide_eq_true_eq]; exact h

theorem raised_eq_false {s : State} {c : Chan} (h : ¬ (s.channels[c].state = .raising ∨ s.channels[c].state = .up)) :
    raised s c = false := by
  rw [← Bool.not_eq_true, raised_iff]; exact h

theorem lowering_unraised {st : ChanState} (h : st = .lowering) : ¬ (st = .raising ∨ st = .up) := by rw [h]; simp

theorem resetLowers_raised {s : State} {c : Chan} (h : raised s c = true) : resetLowers s c = true := by
  rw [resetLowers, h, Bool.true_or]

theorem moving_eq_false {s : State} {c : Chan} (h : s.channels[c].state = .down ∨ s.channels[c].state = .cooldown ∨
    s.channels[c].state = .locked) : moving s c = false := by
  rw [moving, decide_eq_false_iff_not, raised_iff]
  obtain e | e | e := h <;> rw [e] <;> simp

/-- Settles O48: each order is decided by its own checks, and what it lowers is handed on by the channel's part in the path. -/
theorem channelOrdersByState : Obligations.ChannelOrdersByState := by
  intro s q c w rest h hw
  have lowers := exec_channelLower hw q rest s
  have resets := exec_channelReset hw q rest s
  have dead_of (nl : ¬ (s.channels[c].duty = .collect ∧ (s.co.state = .closing ∨ s.co.state = .powered ∨ s.co.state = .neutral))) :
      liveCollector (trainFrameTaken s) c = false := Bool.eq_false_iff.2 (mt (liveCollector_iff ..).1 nl)
  refine ⟨fun live => ?_, fun nl resting => ?_, fun nl unbound resting away => ?_, fun a place => ⟨fun nl => ?_, ?_⟩, ?_, ?_, ?_⟩
  · have is : liveCollector (trainFrameTaken s) c = true := (liveCollector_iff ..).2 live
    rw [lowers, resets]
    exact ⟨request_refused h (channelLower_live is) nofun q 24, request_refused h (channelReset_live is) nofun q 23⟩
  · rw [lowers]
    exact request_refused h (channelLower_resting (dead_of nl) (moving_eq_false (by exact resting))) nofun q 24
  · have stays : resetLowers (trainFrameTaken s) c = false :=
      resetLowers_eq_false (.inr (resting.imp_right fun e => .inr ⟨e, .inl unbound⟩))
    have frees : resetChannel c (trainFrameTaken s) =
        ((trainFrameTaken s).modChan c cleanRecord).modChan c (restRecord .down none) := by
      rw [resetChannel_rests (by exact away) (by exact resting.imp_right fun e => ⟨e, .inl unbound⟩),
        resetCore_unbound (by exact unbound)]
    rw [resets]
    refine (request_answered h ((channelReset_accepted (dead_of nl) (.inr stays)).trans
      (congrArg (fun t => accept t []) frees)) nofun h.owed q 23).trans ?_
    simp only [State.modChan, upd_upd]
    rfl
  · have dead := dead_of nl
    refine ⟨fun lowering => ⟨?_, ?_⟩, fun down => ?_, fun rests away => ?_, fun locked out => ⟨fun grant => ?_, fun free => ?_⟩,
      fun up grant => ⟨?_, ?_⟩, fun up free cmd code x form => ?_⟩
    · have unraised : raised (trainFrameTaken s) c = false := raised_eq_false (s := trainFrameTaken s) (lowering_unraised lowering)
      have asks := channelLower_moving dead (.inr unraised) (moving_eq_true (.inr (by exact lowering)))
      have keeps : lowerByOther c .order (trainFrameTaken s) = trainFrameTaken s := by simp only [lowerByOther, unraised]; rfl
      rw [lowers]
      exact request_accepted h (asks.trans (congrArg (fun t => accept t []) keeps)) q 24
    · have stays : resetLowers (trainFrameTaken s) c = false := resetLowers_eq_false (.inr (.inr (.inl lowering)))
      have becomes := resetChannel_lowering (s := trainFrameTaken s) lowering
      rw [resetCore_eq (by exact place), modChan_freed] at becomes
      rw [resets]
      exact request_answered h ((channelReset_accepted dead (.inr stays)).trans (congrArg (fun t => accept t []) becomes))
        nofun h.owed q 23
    · have stays : resetLowers (trainFrameTaken s) c = false := resetLowers_eq_false (.inl down)
      have becomes := resetChannel_down (s := trainFrameTaken s) down
      rw [resetCore_eq (by exact place)] at becomes
      rw [resets]
      exact request_answered h ((channelReset_accepted dead (.inr stays)).trans (congrArg (fun t => accept t []) becomes))
        nofun h.owed q 23
    · have stays : resetLowers (trainFrameTaken s) c = false :=
        resetLowers_eq_false (.inr (rests.imp_right fun e => .inr ⟨e.1, .inr e.2⟩))
      have becomes := resetChannel_rests (s := trainFrameTaken s) away (rests.imp_right fun e => ⟨e.1, .inr e.2⟩)
      rw [resetCore_eq (by exact place), modChan_freed] at becomes
      rw [resets]
      exact request_answered h ((channelReset_accepted dead (.inr stays)).trans (congrArg (fun t => accept t []) becomes))
        nofun h.owed q 23
    · rw [resets]
      exact request_held h grant (channelReset_held dead grant (resetLowers_locked (by exact place) locked out)) q 23
    · have becomes := resetChannel_locked (s := trainFrameTaken s) place locked out
      rw [resets]
      exact request_answered h ((channelReset_accepted dead (.inl free)).trans (congrArg (fun t => accept t []) becomes))
        nofun h.owed q 23
    · rw [lowers]
      exact request_held h grant (channelLower_held dead grant ((raised_iff ..).2 up)) q 24
    · rw [resets]
      exact request_held h grant (channelReset_held dead grant (resetLowers_raised ((raised_iff ..).2 up))) q 23
    · have hands : ∃ order : State → Reply, exec cmd s = react (manage q code order) s ∧
          order (trainFrameTaken s) = accept (handedOn c s.channels[c].state (lowered (trainFrameTaken s) c a x)) [] ∧
          x.state = .lowering := by
        obtain ⟨rfl, rfl, rfl⟩ | ⟨rfl, rfl, rfl⟩ := form
        · refine ⟨channelLowerOrder c, lowers, ?_, rfl⟩
          have raise := (raised_iff (trainFrameTaken s) c).2 up
          rw [channelLower_moving dead (.inl free) (moving_eq_true (.inl raise)), lowerByOther_raised (by exact place) raise]
          rfl
        · refine ⟨channelResetOrder c, resets, ?_, rfl⟩
          rw [channelReset_accepted dead (.inl free), resetChannel_raised (by exact place) (by exact up)]
          rfl
      obtain ⟨order, runs, does, hx⟩ := hands
      obtain ⟨other, scrapes, lost⟩ := handedOn_cases (s := trainFrameTaken s) (a := a) (T := (trainFrameTaken s).train) hx up
        (goes := fun v => v.owed = [] → exec cmd s = .next (follows s { v with train := responded v.train q code .ok [] }))
        (fun ho => by rw [runs]; exact request_answered h does nofun ho q code)
      exact ⟨fun e free => other e free h.owed, fun e mine run => scrapes e mine run h.owed, fun k mine =>
        ⟨fun none => (lost k mine.heard).1 none.heard h.owed,
          fun d b window l sub hl => (lost k mine.heard).2 d b window l sub.heard hl h.owed⟩⟩
  · intro g ⟨low, high, sole⟩ duty other run mine
    have up : raised s c = true := ((sole c).2 rfl).1
    have answers : loweringOrderReply (g :: rest) (trainFrameTaken s) =
        accept (handedOn c s.channels[c].state (lowered (trainFrameTaken s) c a (loweredRecord s .graded s.channels[c])))
          [BitVec.ofNat 16 (2 ^ c.val)] := by
      rw [loweringOrder_sole (s := trainFrameTaken s) low high rest sole,
        gradedLowering_other (s := trainFrameTaken s) sole duty, lowerByOther_raised (a := a) (by exact place) (by exact up)]
      rfl
    have hands := handedOn_scrape (s := trainFrameTaken s) (a := a) (x := loweredRecord s .graded s.channels[c])
      (T := (trainFrameTaken s).train) other mine run ((raised_iff ..).1 up)
    exact request_answered h (answers.trans (congrArg (fun t => accept t _) hands)) nofun h.owed q 22
  · intro g bad
    exact request_refused h (loweringOrder_bad bad rest _) nofun q 22
  · intro g low high none
    exact request_accepted h (loweringOrder_none (s := trainFrameTaken s) low high rest none) q 22
  · intro g b ⟨low, high, sole⟩ duty powered cold hb
    have answers : loweringOrderReply (g :: rest) (trainFrameTaken s) =
        accept (enterOpening .coasting ((trainFrameTaken s).modCo fun r => { r with graded := true }))
          [BitVec.ofNat 16 (2 ^ c.val)] := by
      rw [loweringOrder_sole (s := trainFrameTaken s) low high rest sole,
        gradedLowering_collector (s := trainFrameTaken s) sole duty, gradedCollector_powered (by exact powered)]
    have opens := enterOpening_eq (s := (trainFrameTaken s).modCo fun r => { r with graded := true }) powered cold hb .coasting
    exact request_answered h (answers.trans (congrArg (fun t => accept t _) opens)) nofun h.owed q 22

end Sys2Proof.Machine

namespace Sys2Proof.Machine

/-! ## Entry to LOCKOUT (R78) -/

/-- A fold whose step changes the state at one element alone, and then at none. -/
theorem foldl_sole {α β : Type} {f : β → α → β} {s : β} {c : α} {l : List α} (mem : c ∈ l) (before : ∀ d, d ≠ c → f s d = s)
    (after : ∀ d, f (f s c) d = f s c) : l.foldl f s = f s c := by
  induction l with
  | nil => cases mem
  | cons x xs ih =>
    rw [List.foldl_cons]
    by_cases e : x = c
    · rw [e]; exact List.foldl_fixed' after xs
    · rw [before x e]
      exact ih (List.mem_of_ne_of_mem (Ne.symm e) mem)

theorem scrapeOnChannel_noRun {s : State} (h : s.scrape.run = .noRun) (c : Chan) (old new : ChanState) :
    scrapeOnChannel c old new s = s := by
  rw [scrapeOnChannel, if_neg fun run => run.1 h]

theorem lowerRequest_noRun {s : State} {c : Chan} {a : PosAssign} (place : s.positions[s.roleMap[c]].assigned = some a)
    (up : raised s c = true) (noRun : s.scrape.run = .noRun) (cause : LowerCause) :
    lowerRequest c cause s = lowered s c a (loweredRecord s cause s.channels[c]) := by
  rw [lowerRequest, if_pos up, enterLowering, lowerCore_eq place, scrapeOnChannel_noRun (by exact noRun)]

/-- A lower request for every channel, where one alone is raised and no run is on it. -/
theorem lowerAll_sole {s : State} {c : Chan} {a : PosAssign} (place : s.positions[s.roleMap[c]].assigned = some a)
    (up : raised s c = true) (rest : ∀ d, d ≠ c → raised s d = false) (noRun : s.scrape.run = .noRun) (cause : LowerCause) :
    lowerAll cause s = lowered s c a (loweredRecord s cause s.channels[c]) := by
  have lowers := lowerRequest_noRun place up noRun cause
  rw [lowerAll, foldl_sole (c := c) (List.mem_finRange c), lowers]
  · intro d hd
    simp only [lowerRequest, rest d hd, Bool.false_eq_true, if_false]
  · intro d
    have none : raised (lowered s c a (loweredRecord s cause s.channels[c])) d = false := by
      rw [raised_lowered rfl]
      by_cases e : d = c
      · simp [e]
      · simp [rest d e]
    rw [lowers]
    simp only [lowerRequest, none, Bool.false_eq_true, if_false]

/-- The state after an entry to LOCKOUT, but for the channels that it lowers and its notice (R78). -/
def stopped (s : State) (b : Node) (why : LockoutCause) : State :=
  { s with
    co := { s.co with
      state := .lockout, lockoutCause := why, phase := none, tripQuiet := none, plan := .noPlan, sustain := none,
      openRep := some 100, close := if s.co.close = .queued then .notPlaced else s.co.close,
      neutralAnnounced := if s.co.state = .neutral then false else s.co.neutralAnnounced }
    stagger := if gateOpen s = true then none else s.stagger
    roof := { s.roof with
      classA := s.roof.classA.set b (some .opn)
      classB := if s.co.close = .queued then s.roof.classB.filter fun e => e.cmd ≠ .close else s.roof.classB } }

/-- Breaker sustain off and the open repetition on, with a change of the record between them (R78, R133, R134). -/
theorem openRepOn_sustainOff {s : State} {b : Node} (hb : nodeOf? s .breaker = some b) (f : Changeover → Changeover) :
    openRepOn ((breakerSustainOff s).modCo f) = { s with
      co := { f { s.co with sustain := none } with openRep := some 100 }
      roof := { s.roof with classA := s.roof.classA.set b (some .opn) } } := by
  have sustained : nodeOf? (s.modCo fun r => { r with sustain := none }) .breaker = some b := hb
  simp only [breakerSustainOff, sustained, openRepOn, placeABreaker]
  generalize off : removeSustain b (s.modCo fun r => { r with sustain := none }) = t
  have breaker : nodeOf? ((t.modCo f).modCo fun r => { r with openRep := some Config.openRepeatMs }) .breaker = some b := by
    subst off; exact hb
  have slot : upd (upd s.roof.classA b fun h => if h = some .sustain then none else h) b (slotAfter .opn) =
      s.roof.classA.set b (some .opn) := by
    rw [upd_upd]; rfl
  simp only [breaker, ← slot]
  subst off
  rfl

section
variable {s : State} {b : Node} (hb : nodeOf? s .breaker = some b) (noRun : s.scrape.run = .noRun)
  (cold : ∀ z : Zone, s.zones[z].state ≠ .heating)
include hb noRun cold

/-- Steps 1 to 3 of an entry to LOCKOUT (R78). -/
theorem lockout_stops (why : LockoutCause) :
    setCo .lockout (openRepOn ((breakerSustainOff (if s.co.close = .queued then withdrawClose s else s)).modCo (lockoutRecord why))) =
      stopped s b why := by
  have withdrawn : (if s.co.close = .queued then withdrawClose s else s) = { s with roof := { s.roof with
      classB := if s.co.close = .queued then s.roof.classB.filter fun e => e.cmd ≠ .close else s.roof.classB } } := by
    split <;> rfl
  have record : changeRecord .lockout { lockoutRecord why { s.co with sustain := none } with openRep := some 100 } =
      (stopped s b why).co := by
    simp [changeRecord, lockoutRecord, stopped]
  rw [withdrawn, openRepOn_sustainOff (b := b) (by exact hb)]
  refine (setCo_cold (st := .lockout) (by exact cold) (by nofun) (.inr (by exact noRun))).trans ?_
  exact congrArg (fun co => { stopped s b why with co := co }) record

variable (outside : s.co.state ≠ .lockout)
include outside

theorem enterLockout_quiet (rest : ∀ d, raised s d = false) (why : LockoutCause) : enterLockout why s =
    queueNotice (.lockout why s.co.state s.co.active s.co.collector) (stopped s b why) := by
  have stops := lockout_stops hb noRun cold why
  have none : lowerAll .safe (stopped s b why) = stopped s b why := lowerAll_none (by exact rest) _
  rw [enterLockout, if_neg outside]
  simp only [stops, schedulerLowers_noRun noRun, none]
  rfl

theorem enterLockout_sole {c : Chan} {a : PosAssign} (place : s.positions[s.roleMap[c]].assigned = some a) (up : raised s c = true)
    (rest : ∀ d, d ≠ c → raised s d = false) (why : LockoutCause) : enterLockout why s =
      queueNotice (.lockout why s.co.state s.co.active s.co.collector)
        (lowered (stopped s b why) c a (loweredRecord s .safe s.channels[c])) := by
  have stops := lockout_stops hb noRun cold why
  have one : lowerAll .safe (stopped s b why) = lowered (stopped s b why) c a (loweredRecord s .safe s.channels[c]) :=
    lowerAll_sole (s := stopped s b why) place up rest noRun .safe
  rw [enterLockout, if_neg outside]
  simp only [stops, schedulerLowers_noRun noRun, one]
  rfl

end

end Sys2Proof.Machine

namespace Sys2Proof.Machine

/-! ## Windows that run out -/

section
variable {s : State} {c : Chan}

/-- A fault of a raised channel: the record, the notice, and the hand-on (R40, R45). -/
theorem chanFault_eq {a : PosAssign} (place : s.positions[s.roleMap[c]].assigned = some a) {f : ChanFault} (hf : f ≠ .noFault) :
    chanFault c f s = handedOn c s.channels[c].state
      { lowered s c a { loweredRecord s .fault s.channels[c] with lastFault := f } with
        train := noteNotice (.channelFault c f .lowering (some .fault) s.channels[c].counter s.channels[c].limit) s.train } := by
  generalize recorded : (s.modChan c fun r => { r with lastFault := f }) = t
  have core : lowerCore c .fault t = lowered s c a { loweredRecord s .fault s.channels[c] with lastFault := f } := by
    subst recorded
    rw [lowerCore_eq (by exact place), State.modChan_channels, upd_self]
    simp only [lowered, State.modChan, upd, Vector.set_set]
    rfl
  simp only [chanFault, faultLowering, recorded, core, faultNotice, hf, if_false, if_true, lowered_get_self]
  rfl

/-- The state after the lower window of channel c has expired, without the lockout (R42). -/
def timedOut (s : State) (c : Chan) : State :=
  { s with
    channels := s.channels.set c
      { s.channels[c] with state := .locked, phase := none, lowerRep := none, lastFault := .lowerTimeout }
    train := noteNotice (.channelFault c .lowerTimeout .locked none s.channels[c].counter s.channels[c].limit) s.train }

theorem lowerTimeout_eq : lowerTimeout c s = timedOut s c := by
  simp only [lowerTimeout, faultNotice, State.modChan_channels, upd_self, reduceCtorEq, if_false]
  rfl

theorem timedOut_get_other {d : Chan} (h : d ≠ c) : (timedOut s c).channels[d] = s.channels[d] :=
  upd_other s.channels (fun _ => { s.channels[c] with state := .locked, phase := none, lowerRep := none, lastFault := .lowerTimeout })
    h.symm

theorem raised_timedOut (lowering : s.channels[c].state = .lowering) (d : Chan) : raised (timedOut s c) d = raised s d := by
  by_cases h : d = c
  · subst h
    have locked : (timedOut s d).channels[d].state = .locked := by simp [timedOut]
    rw [raised_eq_false (lowering_unraised lowering), raised_eq_false (by rw [locked]; simp)]
  · simp only [raised, timedOut_get_other h]

theorem chanPhase_eq {k : ChanTimer} {left : Nat} (h : s.channels[c].phase = some (k, left)) : chanPhase s c k = true := by
  rw [chanPhase, h]; exact decide_eq_true rfl

theorem chanPhase_stopped (h : s.channels[c].phase = none) (k : ChanTimer) : chanPhase s c k = false := by
  rw [chanPhase, h]; rfl

theorem coPhase_eq {st : CoState} {k : CoTimer} {left : Nat} (here : s.co.state = st) (h : s.co.phase = some (k, left)) :
    coPhase s st k = true := by
  rw [coPhase, h, here]; simp

theorem coPhase_stopped (h : s.co.phase = none) (st : CoState) (k : CoTimer) : coPhase s st k = false := by
  rw [coPhase, h]; simp

end

/-- The two ends of an entry to LOCKOUT from a state t in which the same channels are raised as in s (R78). -/
theorem enterLockout_ends {s t : State} {b : Node} (hb : nodeOf? t .breaker = some b) (noRun : t.scrape.run = .noRun)
    (cold : ∀ z : Zone, t.zones[z].state ≠ .heating) (outside : t.co.state ≠ .lockout) (same : ∀ d, raised t d = raised s d)
    {why : LockoutCause} {goes : State → Prop} (h : goes (enterLockout why t)) :
    ((∀ d, raised s d = false) → goes (queueNotice (.lockout why t.co.state t.co.active t.co.collector) (stopped t b why))) ∧
    (∀ c a, t.positions[t.roleMap[c]].assigned = some a → raised s c = true → (∀ d, d ≠ c → raised s d = false) →
      goes (queueNotice (.lockout why t.co.state t.co.active t.co.collector)
        (lowered (stopped t b why) c a (loweredRecord t .safe t.channels[c])))) := by
  refine ⟨fun rest => ?_, fun c a place up rest => ?_⟩
  · rwa [enterLockout_quiet hb noRun cold outside fun d => (same d).trans (rest d)] at h
  · rwa [enterLockout_sole hb noRun cold outside place ((same c).trans up) fun d hd => (same d).trans (rest d hd)] at h

/-- Settles O55: a window that runs out faults its channel, or brings the lockout. -/
theorem windowsRunOut : Obligations.WindowsRunOut := by
  intro s ho
  refine ⟨fun c a left place raising runs => ?_, fun c left away cooling runs => ?_, fun c stopped => ⟨?_, ?_, ?_⟩,
    fun stopped => ⟨?_, ?_, ?_⟩, fun x left lockout lowering runs => ?_, fun b hb noRun cold => ?_⟩
  · have expires : expireRaiseWindow c s = chanFault c .raiseTimeout s := if_pos ⟨raising, chanPhase_eq runs⟩
    obtain ⟨other, scrapes, lost⟩ := handedOn_cases (s := s) (c := c) (a := a)
      (x := { loweredRecord s .fault s.channels[c] with lastFault := .raiseTimeout })
      (T := noteNotice (.channelFault c .raiseTimeout .lowering (some .fault) s.channels[c].counter s.channels[c].limit) s.train)
      (goes := fun v => v.owed = [] → exec (.raiseWindowExpiry c) s = .next (follows s v)) rfl (.inl raising)
      (fun owed => react_eq_of (expires.trans (chanFault_eq place nofun)) owed)
    exact ⟨fun e free => other e free ho, fun e mine run => scrapes e mine run ho, fun k mine =>
      ⟨fun none => (lost k mine).1 none ho, fun d b window l sub hl => (lost k mine).2 d b window l sub hl ho⟩⟩
  · have expires : expireCooldown c s = becomeDown c s := if_pos ⟨cooling, chanPhase_eq runs⟩
    exact react_eq_of (expires.trans (becomeDown_eq (.inl cooling) away)) ho
  · exact react_eq_of (if_neg (by simp [chanPhase_stopped stopped])) ho
  · exact react_eq_of (if_neg (by simp [chanPhase_stopped stopped])) ho
  · exact react_eq_of (if_neg (by simp [chanPhase_stopped stopped])) ho
  · exact react_eq_of (if_neg (by simp [coPhase_stopped stopped])) ho
  · exact react_eq_of (if_neg (by simp [coPhase_stopped stopped])) ho
  · exact react_eq_of (if_neg (by simp [coPhase_stopped stopped])) ho
  · have expires : expireLowerWindow x s = lowerWindowExpired x s := if_pos ⟨lowering, chanPhase_eq runs⟩
    have keeps : lowerWindowExpired x s = timedOut s x := by
      rw [lowerWindowExpired, lowerTimeout_eq]; exact if_pos lockout
    exact react_eq_of (expires.trans keeps) ho
  · intro stopped ends
    have window {cmd : Instr} {act : State → State} {why : LockoutCause} (does : exec cmd s = react act s)
        (enters : act s = enterLockout why s) (outside : s.co.state ≠ .lockout) : ends cmd (stopped why s.train) s.channels := by
      obtain ⟨quiet, sole⟩ := enterLockout_ends (s := s) hb noRun cold outside (fun _ => rfl)
        (goes := fun v => v.owed = [] → exec cmd s = .next (follows s v)) (fun owed => does.trans (react_eq_of enters owed))
      exact ⟨fun rest => quiet rest ho, fun c a _ place up rest => sole c a place up rest ho⟩
    refine ⟨fun left here runs => window rfl (if_pos (coPhase_eq here runs)) (by rw [here]; nofun),
      fun left here runs => window rfl (if_pos (coPhase_eq here runs)) (by rw [here]; nofun),
      fun left here runs => window rfl (if_pos (coPhase_eq here runs)) (by rw [here]; nofun),
      fun x left outside lowering runs => ?_⟩
    have expires : expireLowerWindow x s = enterLockout .lowerFail (timedOut s x) := by
      rw [← lowerTimeout_eq]; exact if_pos ⟨lowering, chanPhase_eq runs⟩
    obtain ⟨quiet, sole⟩ := enterLockout_ends (s := s) (t := timedOut s x) hb noRun cold outside (raised_timedOut lowering)
      (goes := fun v => v.owed = [] → exec (.lowerWindowExpiry x) s = .next (follows s v)) (fun owed => react_eq_of expires owed)
    refine ⟨fun rest => quiet rest ho, fun c a _ place up rest => ?_⟩
    have other : c ≠ x := by
      rintro rfl
      rw [raised_eq_false (lowering_unraised lowering)] at up; cases up
    have kept := sole c a place up rest ho
    rw [timedOut_get_other other] at kept
    exact kept

end Sys2Proof.Machine

namespace Sys2Proof.Machine

/-! ## Deadlines and the settle interval (R59, R60, R62, R68, R72) -/

section
variable {s : State} {c : Chan} {a : PosAssign}

theorem lowerScraper_none (h : ∀ d : Chan, s.channels[d].duty ≠ .scrape) : lowerScraper s = s := by
  have none : (List.finRange 4).find? (fun c => decide (s.channels[c].duty = .scrape)) = .none :=
    find?_finRange_none fun d => decide_eq_false (h d)
  simp only [lowerScraper, none]

/-- Entry to LOWERING from a state other than POWERED, the collector alone on the wire (R72). -/
theorem enterCoLowering_eq (powered : s.co.state ≠ .powered) (collector : s.co.collector = some c)
    (place : s.positions[s.roleMap[c]].assigned = some a) (up : raised s c = true) (alone : ∀ d : Chan, s.channels[d].duty ≠ .scrape)
    (noRun : s.scrape.run = .noRun) (plan : Plan) : enterCoLowering plan s =
      { lowered s c a (loweredRecord s (if s.co.graded then .graded else .changeover) s.channels[c]) with
        co := { changeRecord .lowering s.co with plan := plan, phase := none } } := by
  generalize entered : (s.modCo (changeRecord .lowering)).modCo (fun r => { r with plan := plan, phase := none }) = t
  have lowers : lowerCollector (if t.co.graded then .graded else .changeover) t =
      lowered t c a (loweredRecord s (if s.co.graded then .graded else .changeover) s.channels[c]) := by
    rw [lowerCollector, show t.co.collector = some c by subst entered; exact collector]
    subst entered
    exact lowerRequest_noRun (by exact place) (by exact up) (by exact noRun) _
  generalize cause : (if s.co.graded then LowerCause.graded else .changeover) = why at lowers ⊢
  have duties (d : Chan) : (lowered t c a (loweredRecord s why s.channels[c])).channels[d].duty ≠ .scrape := by
    by_cases e : d = c
    · subst e; rw [lowered_get_self]; nofun
    · rw [lowered_get_other e]; subst entered; exact alone d
  have moves : collectorMoving (lowered t c a (loweredRecord s why s.channels[c])) = true := by
    have still : (lowered t c a (loweredRecord s why s.channels[c])).co.collector = some c := by subst entered; exact collector
    simp only [collectorMoving, still]
    exact moving_eq_true (.inr (by rw [lowered_get_self]; rfl))
  rw [enterCoLowering, setCo_eq (st := .lowering) powered (by nofun) (.inr noRun)]
  simp only [entered, schedulerLowers_noRun noRun, lowers, lowerScraper_none duties, moves, if_true]
  subst entered
  rfl

/-- Admission to CLOSING from SWITCHING, line and switch showing the active system (R62). -/
theorem enterClosing_eq {k : SysId} {e : SysEntry} {b : Node} {l : List BEntry} (here : s.co.state = .switching)
    (active : s.co.active = some k) (line : s.recog.result = .system k) (entry : sysEntry? s k = some e)
    (switch : s.co.lastSwitch = some e.switchPos) (hb : nodeOf? s .breaker = some b) (present : s.nodes[b].presence ≠ .mismatch)
    (hl : insertB ⟨b, .close, s.serial⟩ s.roof.classB = some l) : enterClosing s = { s with
      co := { s.co with
        state := .closing, close := .queued, closeSerial := some s.serial, openRep := none,
        phase := some (.closeWindow, s.settings.closeWindow) }
      roof := { s.roof with classB := l }
      serial := s.serial + 1 } := by
  have closing : setCo .closing s = s.modCo fun r => { r with state := .closing } :=
    setCo_state .closing (by rw [here]; nofun) (by rw [here]; nofun) nofun (.inl rfl)
  generalize entered : (s.modCo fun r => { r with state := .closing }) = t at closing
  have shows : resultIsActive t = true := by subst entered; simp [resultIsActive, line, active]
  have stands : switchStands t = true := by
    have position : activeSwitch? t = some e.switchPos := by
      subst entered
      simp only [activeSwitch?, activeEntry?, State.modCo, active]
      exact congrArg (Option.map SysEntry.switchPos) entry
    have reported : t.co.lastSwitch = some e.switchPos := by subst entered; exact switch
    simp [switchStands, position, reported]
  have places : placeForRole .breaker .close t = { t with serial := t.serial + 1, roof := { t.roof with classB := l } } := by
    have breaker : nodeOf? t .breaker = some b := by subst entered; exact hb
    have room : insertB ⟨b, .close, t.serial⟩ t.roof.classB = some l := by subst entered; exact hl
    have fits : t.nodes[b].presence ≠ .mismatch := by subst entered; exact present
    simp only [placeForRole, breaker, placeB, fits, if_false, room, raiseClearsLower]
    rfl
  simp only [enterClosing, enterPath, closing, shows, stands, if_true, admitClose, places]
  subst entered
  rfl

end

/-- Settles O56: both deadlines lower the collector, and the settle interval admits CLOSE. -/
theorem deadlinesAndSettleInterval : Obligations.DeadlinesAndSettleInterval := by
  intro s ho
  refine ⟨fun stopped => ⟨?_, ?_, ?_⟩, fun c a left collector place up alone noRun => ?_,
    fun k e b l left here runs active line entry switch hb present hl => ?_⟩
  · exact react_eq_of (if_neg (by simp [coPhase_stopped stopped])) ho
  · exact react_eq_of (if_neg (by simp [coPhase_stopped stopped])) ho
  · exact react_eq_of (if_neg (by simp [coPhase_stopped stopped])) ho
  · have enters (outside : s.co.state ≠ .powered) := enterCoLowering_eq outside collector place ((raised_iff ..).2 up) alone noRun
    refine ⟨fun here runs => ?_, fun here runs => ?_⟩
    · have record : changeRecord .lowering s.co = { s.co with state := .lowering } :=
        changeRecord_eq (by rw [here]; nofun) (by rw [here]; nofun)
      have expires : expireRecognition s =
          queueNotice (.recognitionTimeout s.co.active s.recog.result) (enterCoLowering .idle s) := if_pos (coPhase_eq here runs)
      rw [enters (by rw [here]; nofun), record] at expires
      exact react_eq_of expires ho
    · have record : changeRecord .lowering s.co = { s.co with state := .lowering, neutralAnnounced := false } := by
        simp [changeRecord, here]
      have pending : (if orderedPending s = true then Plan.coasting else .idle) =
          if s.co.ordered ≠ none ∧ s.co.ordered ≠ s.co.active then .coasting else .idle := by
        simp only [orderedPending, Bool.and_eq_true, Option.isSome_iff_ne_none, decide_eq_true_eq]
      have expires : expireNeutral s = enterCoLowering (if orderedPending s = true then .coasting else .idle) s :=
        if_pos (coPhase_eq here runs)
      rw [enters (by rw [here]; nofun), record, pending] at expires
      exact react_eq_of expires ho
  · have expires : expireSettle s = enterClosing s := if_pos (coPhase_eq here runs)
    exact react_eq_of (expires.trans (enterClosing_eq here active line entry switch hb present hl)) ho

end Sys2Proof.Machine

namespace Sys2Proof.Machine

/-! ## Orders that set their own record -/

section
variable {s : State}

theorem onOff?_eq (on : Bool) : onOff? (if on then 1 else 0) = some on := by cases on <;> rfl

/-! ### REMAP (R24) -/

theorem vector_four (m : Vector Pos 4) : #v[m[0], m[1], m[2], m[3]] = m := by
  ext i hi
  interval_cases i <;> rfl

section
variable {m : Vector Pos 4} {a b c d : Word} (ha : a.toNat = number m[0]) (hb : b.toNat = number m[1]) (hc : c.toNat = number m[2])
  (hd : d.toNat = number m[3])

include ha hb hc hd

theorem remapOrder_eq (rest : List Word) : remapOrder (a :: b :: c :: d :: rest) s =
    if (List.finRange 4).any fun x => s.channels[x].state ≠ .down then refuse s .refusedState
    else if ¬ m.toList.Nodup then refuse s .badEntry
    else accept { s with roleMap := m } [a, b, c, d] := by
  have words {w : Word} {p : Pos} (h : w.toNat = number p) : word (number p) = w := word_number (by omega) h
  simp only [remapOrder, ha, hb, hc, hd, numbered?_number, permutation, words ha, words hb, words hc, words hd, decide_eq_true_eq]
  rw [vector_four]

end

/-! ### ICE_SEASON (R85) -/

theorem seasonTimer_eq (on : Bool) (r : ZoneRec) : seasonTimer on r = { r with
    passTimer := if r.seasonOnly then (if on ∧ r.node ≠ none then some (r.interval * 1000) else none) else r.passTimer } := by
  unfold seasonTimer
  split
  case isTrue only =>
    have runs : timerRuns on r = true ↔ on = true ∧ r.node ≠ none := by
      simp [timerRuns, only, Option.isSome_iff_ne_none, and_comm]
    simp only [restartTimer, runs]
  case isFalse => rfl

theorem setSeason_same {on : Bool} (h : s.iceSeason = on) : setSeason on s = s := if_pos h

theorem setSeason_changed {on : Bool} (h : s.iceSeason ≠ on) (run : s.scrape.run = .noRun) (chan : s.scrape.chan = none) :
    setSeason on s = { s with iceSeason := on, zones := s.zones.map (seasonTimer on) } := by
  rw [setSeason, if_neg h]
  cases on with
  | true => rfl
  | false =>
    simp only [Bool.false_eq_true, if_false, endRunAndLower, chan]
    exact endRun_noRun (by exact run) _

end

theorem filterable_iff (k : Fin 19) : filterable k = true ↔ number k = 1 ∨ number k = 6 := by revert k; decide

theorem someChannelUp_iff (s : State) :
    ((List.finRange 4).any fun c => s.channels[c].state ≠ .down) = true ↔ ∃ c : Chan, s.channels[c].state ≠ .down := by
  simp only [List.any_eq_true, List.mem_finRange, true_and, decide_eq_true_eq]

theorem noChannelUp {s : State} (all : ∀ c : Chan, s.channels[c].state = .down) :
    ¬ ((List.finRange 4).any fun c => s.channels[c].state ≠ .down) = true := fun up => by
  obtain ⟨c, hc⟩ := (someChannelUp_iff s).1 up
  exact hc (all c)

/-- Settles O49: each order checks its arguments and sets its own record. -/
theorem ordersThatSetTheirOwnRecord : Obligations.OrdersThatSetTheirOwnRecord := by
  intro s q rest h
  refine ⟨fun m a b c d ha hb hc hd => ⟨fun some => ?_, fun all twice => ?_, fun all each => ?_⟩,
    fun on run chan => ⟨fun same => ?_, fun changed => ?_⟩, fun on => ?_,
    fun k kw on hk => ⟨fun ok => ?_, fun changes notLine notFault => ?_⟩, fun grant busy => ?_, fun free => ?_⟩
  · obtain ⟨x, hx⟩ := some
    have refuses : remapOrder (a :: b :: c :: d :: rest) (trainFrameTaken s) = refuse (trainFrameTaken s) .refusedState :=
      (remapOrder_eq ha hb hc hd rest).trans (if_pos (List.any_eq_true.2 ⟨x, List.mem_finRange x, decide_eq_true hx⟩))
    exact request_refused h refuses nofun q 25
  · have refuses : remapOrder (a :: b :: c :: d :: rest) (trainFrameTaken s) = refuse (trainFrameTaken s) .badEntry := by
      rw [remapOrder_eq ha hb hc hd, if_neg (noChannelUp (s := trainFrameTaken s) all), if_pos twice]
    exact request_refused h refuses nofun q 25
  · have sets : remapOrder (a :: b :: c :: d :: rest) (trainFrameTaken s) =
        accept { trainFrameTaken s with roleMap := m } [a, b, c, d] := by
      rw [remapOrder_eq ha hb hc hd, if_neg (noChannelUp (s := trainFrameTaken s) all), if_neg (not_not.2 each)]
    exact request_answered h sets nofun h.owed q 25
  · have keeps : iceSeasonOrder ((if on then 1 else 0) :: rest) (trainFrameTaken s) = accept (trainFrameTaken s) [] := by
      simp only [iceSeasonOrder, onOff?_eq, setSeason_same (s := trainFrameTaken s) same]
    exact request_accepted h keeps q 26
  · have sets : iceSeasonOrder ((if on then 1 else 0) :: rest) (trainFrameTaken s) =
        accept { trainFrameTaken s with iceSeason := on, zones := s.zones.map (seasonTimer on) } [] := by
      simp only [iceSeasonOrder, onOff?_eq, setSeason_changed (s := trainFrameTaken s) changed run chan]
      rfl
    rw [funext (seasonTimer_eq on)] at sets
    exact request_answered h sets nofun h.owed q 26
  · have sets : depotAccessOrder ((if on then 1 else 0) :: rest) (trainFrameTaken s) =
        accept ((trainFrameTaken s).modTakeover fun t => { t with access := on }) [] := by
      simp only [depotAccessOrder, onOff?_eq]
    exact request_answered h sets nofun h.owed q 28
  · have sets : noticeFilterOrder (kw :: (if on then 1 else 0) :: rest) (trainFrameTaken s) =
        accept ((trainFrameTaken s).modTrain fun t => { t with filter := t.filter.set k on }) [] := by
      have named : noticeKindIndex? kw = some k := by rw [noticeKindIndex?, hk, numbered?_number]
      have admits : ¬ (on = true ∧ ¬ filterable k = true) := by
        rw [filterable_iff]; rintro ⟨rfl, no⟩; simp_all
      simp only [noticeFilterOrder, named, onOff?_eq, admits, if_false]
    exact request_answered h sets nofun h.owed q 29
  · have refuses : noticeFilterOrder (kw :: 1 :: rest) (trainFrameTaken s) = refuse (trainFrameTaken s) .badEntry := by
      have named : noticeKindIndex? kw = some k := by rw [noticeKindIndex?, hk, numbered?_number]
      have bars : ¬ filterable k = true := by rw [filterable_iff]; simp [notLine, notFault]
      simp only [noticeFilterOrder, named, show onOff? 1 = some true from rfl]
      exact if_pos ⟨trivial, bars⟩
    exact request_refused h refuses nofun q 29
  · exact request_held h grant (if_pos ⟨grant, (someChannelUp_iff s).2 busy⟩) q 30
  · exact request_answered h (decide := partResetOrder) (if_neg fun held => free ⟨held.1, (someChannelUp_iff s).1 held.2⟩)
      nofun h.owed q 30

end Sys2Proof.Machine

namespace Sys2Proof.Machine

/-! ## Timers that place a frame again (R40, R51, R132, R133) -/

section
variable {s : State}

/-- LOWER and OPEN take the slot, whatever stood in it (R125). -/
theorem upd_slotAfter (v : Vector (Option AFrame) 63) (n : Node) {f : AFrame} (h : f ≠ .sustain) :
    upd v n (slotAfter f) = v.set n (some f) := by
  cases f with
  | sustain => exact absurd rfl h
  | _ => rfl

/-- SUSTAIN takes a slot that is free (R125). -/
theorem slotAfter_sustain : slotAfter .sustain = fun h => if h = none then some .sustain else h :=
  funext fun h => by cases h <;> rfl

theorem placeABreaker_eq {b : Node} (h : nodeOf? s .breaker = some b) (f : AFrame) : placeABreaker f s = placeA b f s := by
  rw [placeABreaker, h]

theorem expireLowerRep_eq {c : Chan} {a : PosAssign} (place : s.positions[s.roleMap[c]].assigned = some a)
    (lowering : s.channels[c].state = .lowering) (runs : s.channels[c].lowerRep ≠ none) : expireLowerRep c s = { s with
      channels := upd s.channels c fun r => { r with lowerRep := some 100 }
      roof := { s.roof with classA := s.roof.classA.set a.node (some .lower) } } := by
  rw [expireLowerRep, if_pos ⟨lowering, Option.isSome_iff_ne_none.2 runs⟩,
    placeAChan_eq (n := a.node) (chanNode?_eq (by exact place)), ← upd_slotAfter _ _ (by nofun)]
  rfl

theorem expireChanSustain_eq {c : Chan} {a : PosAssign} (place : s.positions[s.roleMap[c]].assigned = some a)
    (up : raised s c = true) (runs : s.channels[c].sustain ≠ none) : expireChanSustain c s = { s with
      channels := upd s.channels c fun r => { r with sustain := some 100 }
      roof := { s.roof with classA := upd s.roof.classA a.node fun h => if h = none then some .sustain else h } } := by
  rw [expireChanSustain, if_pos ⟨up, Option.isSome_iff_ne_none.2 runs⟩,
    placeAChan_eq (n := a.node) (chanNode?_eq (by exact place)), ← slotAfter_sustain]
  rfl

theorem expireBreakerSustain_eq {b : Node} (hb : nodeOf? s .breaker = some b) (runs : s.co.sustain ≠ none) :
    expireBreakerSustain s = { s with
      co := { s.co with sustain := some 100 }
      roof := { s.roof with classA := upd s.roof.classA b fun h => if h = none then some .sustain else h } } := by
  rw [expireBreakerSustain, if_pos (Option.isSome_iff_ne_none.2 runs), placeABreaker_eq (b := b) (by exact hb), ← slotAfter_sustain]
  rfl

theorem expireOpenRep_eq {b : Node} (hb : nodeOf? s .breaker = some b) (runs : s.co.openRep ≠ none) : expireOpenRep s = { s with
    co := { s.co with openRep := some 100 }
    roof := { s.roof with classA := s.roof.classA.set b (some .opn) } } := by
  rw [expireOpenRep, if_pos (Option.isSome_iff_ne_none.2 runs), openRepOn, placeABreaker_eq (b := b) (by exact hb),
    ← upd_slotAfter _ _ (by nofun)]
  rfl

/-! ## The announce retry (R115) -/

/-- The roster's step for one node of a round of ANNOUNCE-REQUESTs. -/
def announceStep (s : State) (n : Node) : State :=
  if s.nodes[n].role ≠ .noRole ∧ s.nodes[n].presence = .absent then placeAnnounce n s else s

theorem announceAbsent_eq (s : State) : announceAbsent s = (List.finRange 63).foldl announceStep s := rfl

theorem announceAbsent_none (h : ∀ n : Node, s.nodes[n].role = .noRole ∨ s.nodes[n].presence ≠ .absent) : announceAbsent s = s :=
  List.foldl_fixed' (f := announceStep) (fun n => if_neg fun absent => (h n).elim absent.1 fun p => p absent.2) _

theorem placeAnnounce_room {n : Node} (free : granted s = false) (none : ∀ e ∈ s.roof.classB, e.node ≠ n)
    (room : s.roof.classB.length < 16) : placeAnnounce n s = { s with
      serial := s.serial + 1, roof := { s.roof with classB := s.roof.classB ++ [⟨n, .announceRequest, s.serial⟩] } } := by
  have places : ¬ (granted s = true ∨ (s.roof.classB.any fun e => decide (e.node = n)) = true ∨ classBMax ≤ s.roof.classB.length) := by
    rintro (grant | held | full)
    · rw [free] at grant; cases grant
    · obtain ⟨e, mem, at_⟩ := List.any_eq_true.1 held
      exact none e mem (of_decide_eq_true at_)
    · exact absurd room (Nat.not_lt.2 full)
  rw [placeAnnounce, if_neg places]
  rfl

theorem placeAnnounce_again {n : Node} (h : ∃ e ∈ s.roof.classB, e.node = n) : placeAnnounce n s = s := by
  obtain ⟨e, mem, at_⟩ := h
  exact if_pos (.inr (.inl (List.any_eq_true.2 ⟨e, mem, decide_eq_true at_⟩)))

/-- A round of ANNOUNCE-REQUESTs for one ABSENT configured node. -/
theorem announceAbsent_sole {n : Node} (sole : ∀ m : Node, (s.nodes[m].role ≠ .noRole ∧ s.nodes[m].presence = .absent) ↔ m = n)
    (free : granted s = false) (none : ∀ e ∈ s.roof.classB, e.node ≠ n) (room : s.roof.classB.length < 16) :
    announceAbsent s = { s with
      serial := s.serial + 1, roof := { s.roof with classB := s.roof.classB ++ [⟨n, .announceRequest, s.serial⟩] } } := by
  have step : announceStep s n = _ := (if_pos ((sole n).2 rfl)).trans (placeAnnounce_room free none room)
  rw [announceAbsent_eq, foldl_sole (c := n) (List.mem_finRange n) (fun m hm => if_neg (mt (sole m).1 hm)), step]
  intro m
  rw [step]
  by_cases e : m = n
  · subst e
    exact (if_pos (by exact (sole m).2 rfl)).trans (placeAnnounce_again ⟨_, List.mem_concat_self, rfl⟩)
  · exact if_neg (by exact mt (sole m).1 e)

/-! ## The silence timer in IDLE (R169, R170) -/

theorem expireSilence_idle (runs : s.train.silence ≠ none) (here : s.co.state = .idle) : expireSilence s = { s with
    co := { s.co with ordered := none }
    train := noteNotice (.trainSilence s.settings.silenceTime .idle) { s.train with silence := none, silent := true } } := by
  obtain ⟨left, hleft⟩ := Option.ne_none_iff_exists'.1 runs
  have idle (t : State) (ht : t.co.state = .idle) : powerDown t = t.modCo fun r => { r with ordered := none } := by
    simp only [powerDown, ht, reduceCtorEq, if_false, show (t.modCo fun r => { r with ordered := none }).co.state = .idle from ht]
  simp only [expireSilence, hleft]
  rw [idle _ (by exact here), ← here]
  rfl

end

/-- Settles O54: each timer that runs has its one effect, and one that does not run has none. -/
theorem repeatedFramesAndPlainTimers : Obligations.RepeatedFramesAndPlainTimers := by
  intro s ho goes
  refine ⟨fun c a place => ⟨fun lowering runs => ?_, fun up runs => ?_⟩, fun c => ⟨fun stopped => ?_, fun stopped => ?_⟩,
    fun b hb => ⟨fun runs => ?_, fun runs => ?_⟩, fun stopped => ?_, fun stopped => ?_, fun runs => ?_, fun stopped => ?_,
    fun runs => ⟨fun none => ?_, fun n sole free own room => ?_⟩, fun stopped => ?_, fun runs here => ?_⟩
  · exact react_eq_of (expireLowerRep_eq place lowering runs) ho
  · exact react_eq_of (expireChanSustain_eq place ((raised_iff ..).2 up) runs) ho
  · exact react_eq_of (if_neg (by rw [stopped]; simp)) ho
  · exact react_eq_of (if_neg (by rw [stopped]; simp)) ho
  · exact react_eq_of (expireBreakerSustain_eq hb runs) ho
  · exact react_eq_of (expireOpenRep_eq hb runs) ho
  · exact react_eq_of (if_neg (by rw [stopped]; simp)) ho
  · exact react_eq_of (if_neg (by rw [stopped]; simp)) ho
  · exact react_eq_of (act := expireTripQuiet) (if_pos (Option.isSome_iff_ne_none.2 runs)) ho
  · exact react_eq_of (if_neg (by rw [stopped]; simp)) ho
  · have expires : expireAnnounce s = announceAbsent { s with announceRetry := some 1000 } := if_pos (Option.isSome_iff_ne_none.2 runs)
    exact react_eq_of (expires.trans (announceAbsent_none (by exact none))) ho
  · have expires : expireAnnounce s = announceAbsent { s with announceRetry := some 1000 } := if_pos (Option.isSome_iff_ne_none.2 runs)
    exact react_eq_of (expires.trans (announceAbsent_sole (s := { s with announceRetry := some 1000 }) sole free own room)) ho
  · refine react_eq_of ?_ ho
    rw [expireSilence, stopped]
  · exact react_eq_of (expireSilence_idle runs here) ho

end Sys2Proof.Machine

namespace Sys2Proof.Machine

/-! ## What the stages of a part reset leave (R163) -/

/-- t differs from s at most in class B placements (R126). -/
def Placed (s t : State) : Prop := ∃ n o l, t = { s with serial := n, owed := o, roof := { s.roof with classB := l } }

theorem Placed.refl (s : State) : Placed s s := ⟨_, _, _, rfl⟩

theorem Placed.trans {s t u : State} (h : Placed s t) (h' : Placed t u) : Placed s u := by
  obtain ⟨_, _, _, rfl⟩ := h
  obtain ⟨_, _, _, rfl⟩ := h'
  exact ⟨_, _, _, rfl⟩

theorem Placed.fold {α : Type} {f : State → α → State} (h : ∀ s x, Placed s (f s x)) (l : List α) (s : State) :
    Placed s (l.foldl f s) := by
  induction l generalizing s with
  | nil => exact .refl s
  | cons x l ih => exact (h s x).trans (ih _)

theorem placed_resetHeatOff (s : State) (z : Zone) : Placed s (resetHeatOff s z) := by
  unfold resetHeatOff placeHeatOffUnlessMismatch placeB
  split
  case isFalse => exact .refl s
  case isTrue =>
    split
    · exact .refl s
    · split
      · exact .refl s
      · simp only [raiseClearsLower]
        split
        · exact ⟨_, _, _, rfl⟩
        · split <;> exact ⟨_, _, _, rfl⟩

/-- t differs from s at most in ANNOUNCE-REQUESTs placed (R115). -/
def Announced (s t : State) : Prop := ∃ n l, t = { s with serial := n, roof := { s.roof with classB := l } }

theorem announced_announceAbsent (s : State) : Announced s (announceAbsent s) := by
  have step (s : State) (n : Node) : Announced s (announceStep s n) := by
    unfold announceStep placeAnnounce
    split
    case isTrue => split <;> exact ⟨_, _, rfl⟩
    case isFalse => exact ⟨_, _, rfl⟩
  rw [announceAbsent_eq]
  induction List.finRange 63 generalizing s with
  | nil => exact ⟨_, _, rfl⟩
  | cons n l ih =>
    obtain ⟨_, _, e⟩ := step s n
    obtain ⟨_, _, e'⟩ := ih (announceStep s n)
    rw [List.foldl_cons, e', e]
    exact ⟨_, _, rfl⟩

/-- The end of the sequence, where the gate is closed: ANNOUNCE-REQUESTs, the retry timer, and the takeover (R115, R120). -/
theorem endOfReset_eq {s : State} (closed : s.co.state ≠ .powered) : ∃ n l k, endOfReset s =
    { s with serial := n, roof := { s.roof with classB := l }, announceRetry := some 1000, takeover := k } := by
  obtain ⟨n, l, e⟩ := announced_announceAbsent s
  have granting (t : State) (ht : t.co.state ≠ .powered) : grant t = t.modTakeover fun k => { k with state := .granted } :=
    gateChange_same ((gateOpen_eq_false (s := t.modTakeover fun k => { k with state := .granted }) ht).trans (gateOpen_eq_false ht).symm)
  have evaluated (t : State) (ht : t.co.state ≠ .powered) : ∃ k, evaluateTakeover t = { t with takeover := k } := by
    unfold evaluateTakeover
    split
    · split
      · split
        · exact ⟨_, granting t ht⟩
        · exact ⟨_, rfl⟩
      · exact ⟨_, rfl⟩
    · split <;> exact ⟨_, rfl⟩
    · exact ⟨_, rfl⟩
  simp only [endOfReset, e]
  split
  · obtain ⟨k, ek⟩ := evaluated { s with serial := n, roof := { s.roof with classB := l }, announceRetry := some 1000 } closed
    exact ⟨_, _, _, ek⟩
  · exact ⟨_, _, _, rfl⟩

/-- t differs from s at most in the channels, their frames and their notices (R49). -/
def ChannelsOnly (s t : State) : Prop := ∃ v a b n o d k, t = { s with
  channels := v, roof := { s.roof with classA := a, classB := b },
  train := { s.train with notices := n, overflow := o, dropped := d, lost := k } }

theorem ChannelsOnly.refl (s : State) : ChannelsOnly s s := ⟨_, _, _, _, _, _, _, rfl⟩

theorem ChannelsOnly.trans {s t u : State} (h : ChannelsOnly s t) (h' : ChannelsOnly t u) : ChannelsOnly s u := by
  obtain ⟨_, _, _, _, _, _, _, rfl⟩ := h
  obtain ⟨_, _, _, _, _, _, _, rfl⟩ := h'
  exact ⟨_, _, _, _, _, _, _, rfl⟩

theorem channelsOnly_modChan (s : State) (c : Chan) (f : Channel → Channel) : ChannelsOnly s (s.modChan c f) :=
  ⟨_, _, _, _, _, _, _, rfl⟩

/-- A notice that is queued changes the notice queue and its losses (R165 to R167). -/
theorem noteNotice_eq (x : NoticeData) (t : Train) : ∃ n o d k, noteNotice x t =
    { t with notices := n, overflow := o, dropped := d, lost := k } := by
  unfold noteNotice
  split
  · exact ⟨_, _, _, _, rfl⟩
  · split
    · exact ⟨_, _, _, _, rfl⟩
    · split <;> exact ⟨_, _, _, _, rfl⟩

theorem channelsOnly_faultNotice (s : State) (c : Chan) (f : ChanFault) (st : ChanState) (cause : Option LowerCause) (n l : Nat) :
    ChannelsOnly s (faultNotice c f st cause n l s) := by
  unfold faultNotice
  split
  · exact .refl s
  · obtain ⟨_, _, _, _, e⟩ :=
      noteNotice_eq (.channelFault c f st (if st = .lowering then cause else none) n l) s.train
    rw [queueNotice, State.modTrain, e]
    exact ⟨_, _, _, _, _, _, _, rfl⟩

theorem channelsOnly_lowerCore (s : State) (c : Chan) (cause : LowerCause) : ChannelsOnly s (lowerCore c cause s) := by
  unfold lowerCore placeAChan withdrawRaiseChan
  dsimp only
  split <;> split <;> exact ⟨_, _, _, _, _, _, _, rfl⟩

theorem channelsOnly_resetIntoLowering (s : State) (c : Chan) : ChannelsOnly s (resetIntoLowering c s) :=
  ((channelsOnly_modChan ..).trans (channelsOnly_lowerCore ..)).trans (channelsOnly_faultNotice ..)

theorem channelsOnly_resetChan (s : State) (c : Chan) : ChannelsOnly s (resetChan s c) := by
  have down : ChannelsOnly s (resetIntoDown c s) := (channelsOnly_modChan ..).trans (channelsOnly_faultNotice ..)
  unfold resetChan
  split
  · exact .refl s
  iterate 3 exact channelsOnly_resetIntoLowering s c
  all_goals
    split
    · exact channelsOnly_resetIntoLowering s c
    · exact down

theorem channelsOnly_resetChannels (s : State) : ChannelsOnly s (resetChannels s) := by
  rw [resetChannels]
  induction List.finRange 4 generalizing s with
  | nil => exact .refl s
  | cons c l ih => exact (channelsOnly_resetChan s c).trans (ih _)

/-- What a part reset leaves of every block (R5, R49, R80, R104, R123, R136, R153, R163, R164). -/
theorem partReset_eq (s : State) : ∃ v a b x n o d k takeover serial, partReset s = { s with
    recog := {}, channels := v, co := { ({} : Changeover) with lastBreaker := s.co.lastBreaker, lastSwitch := s.co.lastSwitch },
    zones := s.zones.map (resetZoneRecord s.iceSeason), stagger := none, scrape := {}, nodes := s.nodes.map resetNode,
    announceRetry := some 1000, takeover := takeover,
    roof := { s.roof with classA := a, classB := b, classC := [], bypass := 0, tx := x }, fwd := { s.fwd with mirror := [] },
    train := { (resetTrain s).train with notices := n, overflow := o, dropped := d, lost := k }, serial := serial, owed := [] } := by
  obtain ⟨v, a, b, n, o, d, k, channels⟩ := channelsOnly_resetChannels (resetRecognition (resetTrain (resetArbiter s)))
  generalize begun : (resetChangeover (resetChannels (resetRecognition (resetTrain (resetArbiter s))))).modScrape (fun _ => {}) = t
  obtain ⟨serial, owed, l, heats⟩ := Placed.fold placed_resetHeatOff (List.finRange 10) t
  generalize reset : resetRoster (resetForward (resetScheduler (resetChangeover (resetChannels (resetRecognition (resetTrain
    (resetArbiter s))))))) = u
  have idle : u.co.state ≠ .powered := by
    subst reset
    simp only [resetScheduler, begun, heats]
    subst begun
    nofun
  obtain ⟨serial', l', takeover, ends⟩ := endOfReset_eq idle
  rw [partReset, reset, ends]
  subst reset
  simp only [resetScheduler, begun, heats]
  subst begun
  rw [channels]
  exact ⟨_, _, _, _, _, _, _, _, _, _, rfl⟩

/-! ### The channel record after a part reset (R49) -/

section
variable {b : Bool} {w : Nat} {r : Channel}

theorem partResetRecord_down (h : r.state = .down) : partResetRecord b w r = r := by
  simp only [partResetRecord, h]

theorem partResetRecord_lowered (h : r.state = .raising ∨ r.state = .up ∨ r.state = .lowering ∨
    ((r.state = .cooldown ∨ r.state = .locked) ∧ b = true)) :
    partResetRecord b w r = loweringRecord .reset w (resetChanRecord r) := by
  obtain e | e | e | ⟨e | e, bound⟩ := h
  case inr.inr.inr.inl | inr.inr.inr.inr => simp only [partResetRecord, e, bound, if_true]
  all_goals simp only [partResetRecord, e]

theorem partResetRecord_freed (h : r.state = .cooldown ∨ r.state = .locked) :
    partResetRecord false w r = { restRecord .down none r with lastFault := .reset } := by
  obtain e | e := h <;> simp only [partResetRecord, e, Bool.false_eq_true, if_false]

end

/-! ## Completions of the transmitters (R131, R157) -/

section
variable {s : State}

theorem roofComplete_eq {x : RoofTx} (sending : s.roof.tx = some x) (calm : s.takeover.state ≠ .pending) {n : Node}
    {f : NodeRec → NodeRec} (node : x.item.node = n) (record : completeNode x = f) :
    roofComplete s = { s with nodes := upd s.nodes n f, roof := { s.roof with tx := none } } := by
  subst node record
  have ends : completeTakeover ((s.modNode x.item.node (completeNode x)).modRoof fun r => { r with tx := none }) =
      (s.modNode x.item.node (completeNode x)).modRoof fun r => { r with tx := none } := if_neg calm
  simp only [roofComplete, sending, ends]
  rfl

/-- The frame in transmission is the OK of a PART-RESET (R163). -/
theorem isResetOk_iff (x : TrainFrame) : isResetOk x = true ↔ ∃ r, x = .response r ∧ r.code = 30 ∧ r.result = .ok := by
  cases x with
  | response r => simp [isResetOk]
  | notice => simp [isResetOk]
  | copy => simp [isResetOk]

theorem trainComplete_plain {x : TrainFrame} (sending : s.train.tx = some x)
    (other : ¬ (s.train.resetPending = true ∧ isResetOk x = true)) :
    trainComplete s = { s with train := { s.train with tx := none } } := by
  simp only [trainComplete, sending]
  exact if_neg fun both => other both.symm

theorem trainComplete_resets {x : TrainFrame} (sending : s.train.tx = some x) (pending : s.train.resetPending = true)
    (ok : isResetOk x = true) : trainComplete s = partReset { s with train := { s.train with tx := none } } := by
  simp only [trainComplete, sending]
  exact if_pos ⟨ok, pending⟩

end

/-- Settles O53: the completions of the two transmitters, the last of which may bring the part reset. -/
theorem transmissionsComplete : Obligations.TransmissionsComplete := by
  intro s ho sent
  refine ⟨fun none => ?_, fun x sending calm => ⟨fun n f item => ?_, fun e item => ?_, fun e item => ?_⟩, fun none => ?_,
    fun x sending => ⟨fun other => ?_, fun ok => ?_⟩⟩
  · exact react_eq_of (by rw [roofComplete, none]) ho
  · refine react_eq_of (roofComplete_eq sending calm (by rw [item]; rfl) (funext fun r => ?_)) ho
    cases f <;> simp [completeNode, RoofTx.outstanding?, RoofItem.isCommand, item]
  · refine react_eq_of (roofComplete_eq sending calm (by rw [item]; rfl) (funext fun r => ?_)) ho
    cases fills : x.fills <;> simp [completeNode, RoofTx.outstanding?, RoofItem.isCommand, item, fills, Config.ackDeadlineMs]
  · refine react_eq_of (roofComplete_eq sending calm (by rw [item]; rfl) (funext fun r => ?_)) ho
    cases fills : x.fills <;> simp [completeNode, RoofTx.outstanding?, RoofItem.isCommand, item, fills, Config.ackDeadlineMs]
  · exact react_eq_of (by rw [trainComplete, none]) ho
  · exact react_eq_of (trainComplete_plain sending fun both => other ⟨both.1, (isResetOk_iff x).1 both.2⟩) ho
  · have resets := trainComplete_resets sending ok.1 ((isResetOk_iff x).2 ok.2)
    have chans := partReset_channels { s with train := { s.train with tx := none } }
    obtain ⟨v, a, b, y, n, o, d, k, takeover, serial, ends⟩ := partReset_eq { s with train := { s.train with tx := none } }
    rw [ends] at chans resets
    refine ⟨_, react_eq_of resets rfl, rfl, rfl, rfl, rfl, rfl, rfl, rfl, rfl, rfl, rfl, rfl, rfl, fun m => ?_, fun c => ⟨fun st => ?_,
      fun st => ?_, fun st unbound => ?_⟩, fun z => ?_, rfl, rfl, rfl, rfl, rfl⟩
    · exact Vector.getElem_map ..
    · exact (chans c).trans (partResetRecord_down st)
    · refine (chans c).trans ?_
      have lowers := partResetRecord_lowered (b := bound { s with train := { s.train with tx := none } } c) (w := s.settings.lowerWindow)
        (r := s.channels[c]) (st.imp_right (.imp_right (.imp_right fun rests => ⟨rests.1, Option.isSome_iff_ne_none.2 rests.2⟩)))
      exact lowers
    · have loose : bound { s with train := { s.train with tx := none } } c = false := by
        rw [bound, Option.isSome_eq_false_iff, Option.isNone_iff_eq_none]; exact not_not.1 unbound
      refine (chans c).trans ?_
      rw [loose]
      exact partResetRecord_freed st
    · have zone : (s.zones.map (resetZoneRecord s.iceSeason))[z] = resetZoneRecord s.iceSeason s.zones[z] := Vector.getElem_map ..
      simp only [zone]
      exact ⟨rfl, rfl, rfl, rfl, rfl, rfl⟩

end Sys2Proof.Machine

namespace Sys2Proof.Machine

/-! # The Power Path Controller -/

/-! ## Operations that leave the changeover record -/

section
variable (s : State)

@[simp] theorem co_ite (p : Prop) [Decidable p] (t : State) : (if p then s else t).co = if p then s.co else t.co := apply_ite ..

/-- A run over a list whose every turn leaves the changeover record leaves it. -/
theorem co_foldl {α : Type} {f : State → α → State} (h : ∀ s x, (f s x).co = s.co) (l : List α) (s : State) :
    (l.foldl f s).co = s.co := by
  induction l generalizing s with
  | nil => rfl
  | cons x l ih => exact (ih _).trans (h s x)

@[simp] theorem co_queueNotice (d : NoticeData) : (queueNotice d s).co = s.co := rfl
@[simp] theorem co_addResponse (r : Response) : (addResponse r s).co = s.co := rfl
@[simp] theorem co_trainFrameTaken : (trainFrameTaken s).co = s.co := rfl
@[simp] theorem co_discardRequest : (discardRequest s).co = s.co := rfl
@[simp] theorem co_discardCommand : (discardCommand s).co = s.co := rfl

@[simp] theorem co_placeABreaker (f : AFrame) : (placeABreaker f s).co = s.co := by unfold placeABreaker; split <;> rfl

@[simp] theorem co_placeAnnounce (n : Node) : (placeAnnounce n s).co = s.co := by unfold placeAnnounce; split <;> rfl

@[simp] theorem co_announceAbsent : (announceAbsent s).co = s.co := co_foldl (fun s n => by simp) _ s

/-! ### The Heater Scheduler -/

@[simp] theorem co_gateChange (was : Bool) : (gateChange was s).co = s.co := (HeatOnly.gateChange was s).co

@[simp] theorem co_startDecision : (startDecision s).co = s.co := (HeatOnly.startDecision s).co

@[simp] theorem co_passDue (z : Zone) : (passDue z s).co = s.co := by simp [passDue, iceNotice]

@[simp] theorem co_passComplete (z : Zone) : (passComplete z s).co = s.co := by
  simp [passComplete, (HeatOnly.heatOff z s).co]

@[simp] theorem co_contactorFailure (z : Zone) (kind : ZoneFailure) : (contactorFailure z kind s).co = s.co := by
  simp [contactorFailure, (HeatOnly.startDecisionBut ..).co, (HeatOnly.heatOffUnlessMismatch ..).co]

@[simp] theorem co_contactorReport (z : Zone) (p : ContactorPos) : (contactorReport z p s).co = s.co := by
  cases p <;> simp [contactorReport, (HeatOnly.heatOff ..).co]

@[simp] theorem co_contactorPresence (n : Node) : (contactorPresence n s).co = s.co := by
  have lost (kind : ZoneFailure) : (contactorLost n kind s).co = s.co := by unfold contactorLost; split <;> simp
  unfold contactorPresence; split <;> simp [lost]

@[simp] theorem co_endRun (why : EndReason) : (endRun why s).co = s.co := (HeatOnly.endRun why s).co

@[simp] theorem co_scrapeOnChannel (c : Chan) (old new : ChanState) : (scrapeOnChannel c old new s).co = s.co :=
  (HeatOnly.scrapeOnChannel c old new s).co

/-! ### Pantograph Control -/

@[simp] theorem co_placeAChan (c : Chan) (f : AFrame) : (placeAChan c f s).co = s.co := by unfold placeAChan; split <;> rfl

@[simp] theorem co_removeSustainChan (c : Chan) : (removeSustainChan c s).co = s.co := by
  unfold removeSustainChan; split <;> rfl

@[simp] theorem co_withdrawRaiseChan (c : Chan) : (withdrawRaiseChan c s).co = s.co := by
  unfold withdrawRaiseChan; split <;> rfl

@[simp] theorem co_faultNotice (c : Chan) (f : ChanFault) (st : ChanState) (cause : Option LowerCause) (k l : Nat) :
    (faultNotice c f st cause k l s).co = s.co := by
  unfold faultNotice; split <;> rfl

@[simp] theorem co_enterLowering (c : Chan) (cause : LowerCause) : (enterLowering c cause s).co = s.co := by
  simp [enterLowering, lowerCore]

@[simp] theorem co_faultLowering (c : Chan) (f : ChanFault) : (faultLowering c f s).co = s.co := by
  simp [faultLowering, lowerCore]

@[simp] theorem co_addLocks (c : Chan) : (addLocks c s).co = s.co := by simp [addLocks]

@[simp] theorem co_lockOnAdd (c : Chan) : (lockOnAdd c s).co = s.co := by simp [lockOnAdd]

@[simp] theorem co_dropToCooldown (c : Chan) : (dropToCooldown c s).co = s.co := by simp [dropToCooldown]

@[simp] theorem co_endLowering (c : Chan) : (endLowering c s).co = s.co := rfl

@[simp] theorem co_lowerTimeout (c : Chan) : (lowerTimeout c s).co = s.co := by simp [lowerTimeout]

@[simp] theorem co_raiseComplete (c : Chan) : (raiseComplete c s).co = s.co := by simp [raiseComplete]

/-! ### Frames, requests, and what follows a command -/

@[simp] theorem co_offerMirror (m : MirrorCopy) : (offerMirror m s).co = s.co := by
  simp only [offerMirror, takeCopy]; split
  · rfl
  · split
    · split <;> rfl
    · rfl

@[simp] theorem co_mirrorFrame (n : Node) (q : Byte) (f : RoofFrame) : (mirrorFrame n q f s).co = s.co := by
  unfold mirrorFrame; split <;> simp

@[simp] theorem co_unconfiguredFrame (n : Node) (f : RoofFrame) : (unconfiguredFrame n f s).co = s.co := by
  unfold unconfiguredFrame; split <;> rfl

@[simp] theorem co_decideCommand (n : Node) (q c : Byte) (p : List Word) : (decideCommand n q c p s).co = s.co := by
  unfold decideCommand; split <;> rfl

@[simp] theorem co_noteHeld (r : Result) : (noteHeld r s).co = s.co := by unfold noteHeld; split <;> rfl

@[simp] theorem co_nodeCommandFrame (n : Node) (q c : Byte) (p : List Word) : (nodeCommandFrame n q c p s).co = s.co := by
  simp [nodeCommandFrame]

@[simp] theorem co_grant : (grant s).co = s.co := by simp [grant]

@[simp] theorem co_evaluateTakeover : (evaluateTakeover s).co = s.co := by
  unfold evaluateTakeover; split <;> simp

@[simp] theorem co_takeoverAfter (was : State) : (takeoverAfter was s).co = s.co := by simp [takeoverAfter]

@[simp] theorem co_trainPick : (trainPick s).co = s.co := by
  unfold trainPick
  split
  · rfl
  · split
    · rfl
    · split
      · rfl
      · split <;> rfl

@[simp] theorem co_completeTakeover : (completeTakeover s).co = s.co := by simp [completeTakeover]

@[simp] theorem co_roofComplete : (roofComplete s).co = s.co := by
  unfold roofComplete; split <;> simp

end

/-! ## In LOCKOUT (R78, R79) -/

/-- The changeover record stands in LOCKOUT with its first cause. -/
def InLockout (k : LockoutCause) (r : Changeover) : Prop := r.state = .lockout ∧ r.lockoutCause = k

@[simp] theorem inLockout_ite (k : LockoutCause) (p : Prop) [Decidable p] (r r' : Changeover) :
    InLockout k (if p then r else r') ↔ if p then InLockout k r else InLockout k r' := by split <;> rfl

/-! ### The controller's reactions in LOCKOUT -/

section
variable {s : State} (h : s.co.state = .lockout)
include h

theorem enterLockout_lockout (cause : LockoutCause) : enterLockout cause s = s := if_pos h

theorem coOnChannel_lockout (c : Chan) (old new : ChanState) : coOnChannel c old new s = s := by
  simp [coOnChannel, collectorLost, h]

theorem coOnResult_lockout : coOnResult s = s := coOnResult_of_ignoresLine (by simp [IgnoresLine, h])

theorem breakerReport_lockout (p : BreakerPos) : breakerReport p s = s.modCo (breakerRecord p) := by
  cases p <;> simp [breakerReport, breakerRecord, turnsOpenRepOn, meantOpen, h]

theorem switchReport_lockout (p : Nat) : switchReport p s = s.modCo fun r => { r with lastSwitch := some p } := by
  simp [switchReport, h]

theorem breakerSilent_lockout : breakerSilent s = s.modCo fun r => { r with lastBreaker := none } := by
  simp [breakerSilent, h]

theorem coNodeMismatch_lockout : coNodeMismatch s = s := by simp [coNodeMismatch, enterLockout, h]

theorem powerDown_lockout : powerDown s = s := if_pos h

theorem gradedCollector_lockout : gradedCollector s = s.modCo fun r => { r with graded := true } := by
  simp [gradedCollector, h]

theorem switchOutcome_lockout (k : Nat) (o : CmdOutcome) : switchOutcome k o s = s := by simp [switchOutcome, h]

theorem closeOutcome_lockout (k : Nat) (o : CmdOutcome) : closeOutcome k o s = s := by simp [closeOutcome, h]

/-- Auto-scrape asks for POWERED (R98). -/
theorem autoScrape_lockout : autoScrape s = s := by simp [autoScrape, autoScrapeChan?, h]

end

/-! ### Operations that keep LOCKOUT and its cause -/

section
variable {k : LockoutCause} {s : State} (h : InLockout k s.co)
include h

@[simp] theorem inLockout_enterLockout (cause : LockoutCause) : InLockout k (enterLockout cause s).co := by
  rwa [enterLockout_lockout h.1]

@[simp] theorem inLockout_coOnChannel (c : Chan) (old new : ChanState) : InLockout k (coOnChannel c old new s).co := by
  rwa [coOnChannel_lockout h.1]

@[simp] theorem inLockout_coOnResult : InLockout k (coOnResult s).co := by rwa [coOnResult_lockout h.1]

@[simp] theorem inLockout_breakerReport (p : BreakerPos) : InLockout k (breakerReport p s).co := by
  rw [breakerReport_lockout h.1]; exact h

@[simp] theorem inLockout_switchReport (p : Nat) : InLockout k (switchReport p s).co := by
  rw [switchReport_lockout h.1]; exact h

@[simp] theorem inLockout_breakerSilent : InLockout k (breakerSilent s).co := by rw [breakerSilent_lockout h.1]; exact h

@[simp] theorem inLockout_switchSilent : InLockout k (switchSilent s).co := h

@[simp] theorem inLockout_coNodeMismatch : InLockout k (coNodeMismatch s).co := by rwa [coNodeMismatch_lockout h.1]

@[simp] theorem inLockout_powerDown : InLockout k (powerDown s).co := by rwa [powerDown_lockout h.1]

@[simp] theorem inLockout_gradedCollector : InLockout k (gradedCollector s).co := by
  rw [gradedCollector_lockout h.1]; exact h

@[simp] theorem inLockout_switchOutcome (n : Nat) (o : CmdOutcome) : InLockout k (switchOutcome n o s).co := by
  rwa [switchOutcome_lockout h.1]

@[simp] theorem inLockout_closeOutcome (n : Nat) (o : CmdOutcome) : InLockout k (closeOutcome n o s).co := by
  rwa [closeOutcome_lockout h.1]

@[simp] theorem inLockout_openRepOn : InLockout k (openRepOn s).co := by rw [openRepOn, co_placeABreaker]; exact h

/-! ### What reaches a channel from outside -/

@[simp] theorem inLockout_chanFault (c : Chan) (f : ChanFault) : InLockout k (chanFault c f s).co := by simp [chanFault, h]

@[simp] theorem inLockout_lowerByOther (c : Chan) (cause : LowerCause) : InLockout k (lowerByOther c cause s).co := by
  simp [lowerByOther, h]

@[simp] theorem inLockout_arcWatch (c : Chan) (contact : Bool) (arc : Nat) : InLockout k (arcWatch c contact arc s).co := by
  simp only [arcWatch]
  rw [autoScrape_lockout (by exact h.1)]
  simp [h]

@[simp] theorem inLockout_superviseContact (c : Chan) (contact : Bool) (arc : Nat) :
    InLockout k (superviseContact c contact arc s).co := by
  simp only [superviseContact]
  generalize ht : s.modChan c _ = t
  have counted : InLockout k t.co := ht ▸ h
  split
  · split <;> split <;> simp [counted]
  · exact counted

@[simp] theorem inLockout_loweringEnds (c : Chan) : InLockout k (loweringEnds c s).co :=
  inLockout_coOnChannel (s := endLowering c s) h c _ _

@[simp] theorem inLockout_addReport (c : Chan) (pos : PanPos) : InLockout k (addReport c pos s).co := by
  simp only [addReport]; split <;> simp [h]

@[simp] theorem inLockout_plainReport (c : Chan) (pos : PanPos) (contact : Bool) (arc : Nat) :
    InLockout k (plainReport c pos contact arc s).co := by
  unfold plainReport; split <;> simp [h]

@[simp] theorem inLockout_contactReport (p : Pos) (pos : PanPos) (contact add : Bool) (arc : Nat) :
    InLockout k (contactReport p pos contact add arc s).co := by
  simp only [contactReport]
  generalize ht : s.modPos p _ = t
  have seen : InLockout k t.co := ht ▸ h
  split <;> simp [seen]

@[simp] theorem inLockout_raiseOutcome (c : Chan) (n : Nat) (o : CmdOutcome) : InLockout k (raiseOutcome c n o s).co := by
  simp [raiseOutcome, h]

@[simp] theorem inLockout_pantographPresence (n : Node) : InLockout k (pantographPresence n s).co := by
  unfold pantographPresence
  split
  · exact h
  · split
    · split <;> simp [h]
    · exact h

/-! ### The Node Roster -/

@[simp] theorem inLockout_deliverPart (c : BCmd) (n : Nat) (o : CmdOutcome) : InLockout k (deliverPart c n o s).co := by
  cases c with
  | heatOn z => cases o <;> simp [deliverPart, h]
  | _ => simp [deliverPart, h]

@[simp] theorem inLockout_presenceHandOn (n : Node) : InLockout k (presenceHandOn n s).co := by
  unfold presenceHandOn
  split
  case h_3 | h_4 => split <;> simp [h]
  all_goals simp [h]

@[simp] theorem inLockout_setPresence (n : Node) (p : Presence) : InLockout k (setPresence n p s).co :=
  inLockout_presenceHandOn (s := s.modNode n _) h n

omit h in
/-- A run over a list whose every turn keeps LOCKOUT. -/
theorem inLockout_foldl {α : Type} {f : State → α → State} (hf : ∀ s x, InLockout k s.co → InLockout k (f s x).co)
    (l : List α) {s : State} (h : InLockout k s.co) : InLockout k (l.foldl f s).co := by
  induction l generalizing s with
  | nil => exact h
  | cons x l ih => exact ih (hf s x h)

@[simp] theorem inLockout_removeForMismatch (n : Node) : InLockout k (removeForMismatch n s).co := by
  simp only [removeForMismatch]
  rw [co_foldl fun s e => co_addResponse s _]
  exact inLockout_foldl (fun _ e hs => inLockout_deliverPart hs _ _ _) _ h

@[simp] theorem inLockout_enterMismatch (n : Node) : InLockout k (enterMismatch n s).co :=
  inLockout_removeForMismatch (inLockout_setPresence (s := queueNotice _ s) h n _) n

@[simp] theorem inLockout_becomePresent (n : Node) : InLockout k (becomePresent n s).co :=
  inLockout_setPresence (s := s.modNode n _) h n _

@[simp] theorem inLockout_judge (n : Node) (fresh : Bool) : InLockout k (judge n fresh s).co := by
  unfold judge
  split
  · split <;> simp [h]
  · simp [h]

@[simp] theorem inLockout_announceReport (n : Node) (role cls : Word) : InLockout k (announceReport n role cls s).co :=
  inLockout_judge (s := s.modNode n _) h n true

@[simp] theorem inLockout_rejudge (n : Node) : InLockout k (rejudge n s).co := by simp [rejudge, h]

@[simp] theorem inLockout_rejudgeOld (old now : Option Node) : InLockout k (rejudgeOld old now s).co := by
  unfold rejudgeOld; split <;> simp [h]

@[simp] theorem inLockout_nodeSilenced (n : Node) : InLockout k (nodeSilenced n s).co := by
  simp only [nodeSilenced]
  split
  · exact inLockout_setPresence (s := queueNotice _ s) h n _
  · exact h

@[simp] theorem inLockout_deliver (o : Outstanding) (out : CmdOutcome) (data : List Word) :
    InLockout k (deliver o out data s).co := by
  unfold deliver; split <;> simp [h]

@[simp] theorem inLockout_emptySlot (n : Node) : InLockout k (emptySlot n s).co := h

@[simp] theorem inLockout_ackReport (n : Node) (q : Byte) (p : List Word) : InLockout k (ackReport n q p s).co := by
  unfold ackReport; split <;> simp [h]

@[simp] theorem inLockout_ackTimeout (n : Node) : InLockout k (ackTimeout n s).co := by
  unfold ackTimeout; split <;> simp [h]

@[simp] theorem inLockout_restartAge (n : Node) : InLockout k (restartAge n s).co := by
  simp only [restartAge]
  split
  · exact inLockout_setPresence (s := s.modNode n _) h n _
  · exact h

@[simp] theorem inLockout_deliverReport (n : Node) (r : Report) : InLockout k (deliverReport n r s).co := by
  cases r with
  | contact | contactor => simp only [deliverReport]; split <;> simp [h]
  | _ => simp [deliverReport, h]

/-! ### Line Measurement and Recognition -/

@[simp] theorem inLockout_changeResult (w : LineResult) : InLockout k (changeResult w s).co :=
  inLockout_coOnResult (s := queueNotice _ (s.modRecog _)) h

@[simp] theorem inLockout_confirmResult (w : LineResult) : InLockout k (confirmResult w s).co := by
  simp only [confirmResult]
  split
  · exact inLockout_changeResult (s := s.modRecog _) h w
  · exact h

@[simp] theorem inLockout_takeSample (w : Word) : InLockout k (takeSample s w).co := by
  simp only [takeSample]
  split
  · exact inLockout_confirmResult (s := (s.modRecog _).modRecog _) h _
  · exact h

@[simp] theorem inLockout_sampleDelivered (n : Node) (q : Byte) (p : List Word) : InLockout k (sampleDelivered n q p s).co := by
  unfold sampleDelivered
  split
  · exact inLockout_foldl (fun _ w hs => inLockout_takeSample hs w) p (by exact h)
  · exact h

theorem inLockout_expireSample : InLockout k (expireSample s).co := by
  have expired : InLockout k (sampleTimeoutExpired s).co := by
    simp only [sampleTimeoutExpired]
    split
    · split
      · exact h
      · exact inLockout_changeResult (s := s.modRecog _) h _
    · exact h
  simp [expireSample, expired, h]

@[simp] theorem inLockout_deliverFrame (n : Node) (q : Byte) (f : RoofFrame) : InLockout k (deliverFrame n q f s).co := by
  cases f with
  | report code p holds => cases holds <;> simp [deliverFrame, h]
  | _ => simp [deliverFrame, h]

theorem inLockout_takeRoofFrame (n : Node) (q : Byte) (f : RoofFrame) : InLockout k (takeRoofFrame n q f s).co := by
  have mismatched : InLockout k (mismatchFrame n f s).co := by unfold mismatchFrame; split <;> simp [h]
  simp [takeRoofFrame, mismatched, h]

/-! ### What follows every command -/

/-- The departure of a CLOSE changes close progress and breaker sustain alone (R62, R133). -/
@[simp] theorem inLockout_roofPick : InLockout k (roofPick s).co := by
  have departs (x : RoofItem) (t : State) (ht : InLockout k t.co) : InLockout k (tellDeparture x t).co := by
    have closed : InLockout k (closeDeparted t).co := by rw [closeDeparted, co_placeABreaker]; exact ht
    unfold tellDeparture
    split
    · split
      · exact closed
      all_goals exact ht
    all_goals exact ht
  unfold roofPick
  split
  · exact h
  · split
    · exact h
    · exact departs _ _ h

@[simp] theorem inLockout_payOwed (n : Nat) : InLockout k (payOwed n s).co := by
  induction n generalizing s with
  | zero => exact h
  | succ n ih =>
    have paid : InLockout k (payOne s).co := by
      unfold payOne; split
      · exact h
      · exact inLockout_deliverPart (by exact h) _ _ _
    simp [payOwed, ih paid, h]

theorem inLockout_settle (was : State) : InLockout k (settle was s).co := by
  simp only [settle, follows, co_trainPick]
  exact inLockout_roofPick (by rw [co_takeoverAfter]; exact inLockout_payOwed h _)

/-! ### Loads and clears -/

theorem inLockout_loadSystem (entry : List Word) : InLockout k (loadSystem entry s).state.co := by
  unfold loadSystem
  split
  · split
    · exact h
    · split
      · unfold storeSystem
        split
        · exact h
        · split <;> exact h
      · exact h
  · exact h

theorem inLockout_loadWindow (entry : List Word) : InLockout k (loadWindow entry s).state.co := by
  unfold loadWindow
  split
  · split
    · exact h
    · split
      · unfold storeWindow
        split
        · exact h
        · split <;> exact h
      · exact h
  · exact h

theorem inLockout_loadInterlock (entry : List Word) : InLockout k (loadInterlock entry s).state.co := by
  unfold loadInterlock
  split
  · split
    · exact h
    · split
      · unfold storeInterlock
        split <;> exact h
      · exact h
  · exact h

theorem inLockout_loadPosition (entry : List Word) : InLockout k (loadPosition entry s).state.co := by
  unfold loadPosition
  split
  · split
    · exact h
    · split
      · unfold admitPosition
        split
        · exact h
        · split
          · exact h
          · exact inLockout_rejudgeOld (inLockout_rejudge (s := s.modPos _ _) h _) _ _
      · exact h
  · exact h

theorem inLockout_clearSlot {n : Nat} (key : List Word) {clear : Fin n → State} (hc : ∀ i, InLockout k (clear i).co) :
    InLockout k (clearSlot key s clear).state.co := by
  unfold clearSlot
  split
  · split
    · exact h
    · split
      · exact hc _
      · exact h
  · exact h

theorem inLockout_storeNode (n : Node) (role : Role) (period : Nat) : InLockout k (storeNode n role period s).co := by
  have judged (t : State) (ht : InLockout k t.co) (old : Presence) : InLockout k (loadPresence n old t).co := by
    simp [loadPresence, ht]
  simp only [storeNode, co_ite, co_placeAnnounce, ite_self]
  exact judged (s.modNode n _) h _

theorem inLockout_clearSystem (key : List Word) : InLockout k (clearSystem key s).state.co :=
  inLockout_clearSlot h key fun _ => h

theorem inLockout_clearWindow (key : List Word) : InLockout k (clearWindow key s).state.co :=
  inLockout_clearSlot h key fun _ => h

theorem inLockout_clearInterlock (key : List Word) : InLockout k (clearInterlock key s).state.co :=
  inLockout_clearSlot h key fun _ => h

theorem inLockout_clearPosition (key : List Word) : InLockout k (clearPosition key s).state.co :=
  inLockout_clearSlot h key fun p => inLockout_rejudgeOld (s := s.modPos p fun _ => {}) h _ _

theorem inLockout_loadNode (entry : List Word) : InLockout k (loadNode entry s).state.co := by
  unfold loadNode
  split
  · split
    · exact h
    · split
      · unfold admitNode
        split
        · exact h
        · split
          · exact h
          · exact inLockout_storeNode h _ _ _
      · exact h
  · exact h

theorem inLockout_clearNode (key : List Word) : InLockout k (clearNode key s).state.co := by
  unfold clearNode
  split
  · split
    · exact h
    · split
      · split <;> exact h
      · exact h
  · exact h

theorem inLockout_loadZone (entry : List Word) : InLockout k (loadZone entry s).state.co := by
  unfold loadZone
  split
  · split
    · unfold admitZone
      split
      · exact h
      · split
        · exact h
        · split
          · exact h
          · simp [storeZone, h]
    · exact h
  · exact h

theorem inLockout_clearZone (key : List Word) : InLockout k (clearZone key s).state.co := by
  unfold clearZone
  split
  · split
    · split
      · exact h
      · simp [dropZone, h]
    · exact h
  · exact h

theorem inLockout_setConfig (i : ConfigItem) (c : Option Chan) (x : Nat) : InLockout k (setConfig i c x s).co := by
  unfold setConfig; split <;> exact h

theorem inLockout_loadConfig (entry : List Word) : InLockout k (loadConfig entry s).state.co := by
  unfold loadConfig
  split
  · split
    · exact h
    · split
      · exact h
      · exact inLockout_setConfig h _ _ _
  · exact h

theorem inLockout_clearConfig (key : List Word) : InLockout k (clearConfig key s).state.co := by
  unfold clearConfig
  split
  · split
    · exact h
    · exact inLockout_setConfig h _ _ _
  · exact h

/-! ### The orders -/

/-- POWER-UP and CHANGEOVER are refused in LOCKOUT (R54). -/
theorem inLockout_systemOrder (order : SysId → State → Reply) (p : List Word) :
    InLockout k (systemOrder order p s).state.co := by
  unfold systemOrder
  split
  · exact h
  · rw [if_pos h.1]; exact h

theorem inLockout_heldOr {order : State → Reply} (ho : InLockout k (order s).state.co) :
    InLockout k (heldOr order s).state.co := by
  unfold heldOr; split
  · exact h
  · exact ho

theorem inLockout_neutralAheadOrder : InLockout k (neutralAheadOrder s).state.co := by simpa [neutralAheadOrder, h.1] using h

theorem inLockout_sectionClearOrder : InLockout k (sectionClearOrder s).state.co := by simpa [sectionClearOrder, h.1] using h

theorem inLockout_loweringOrderReply (p : List Word) : InLockout k (loweringOrderReply p s).state.co := by
  have others (l : List Chan) : InLockout k (l.foldl (fun t c => lowerByOther c .graded t) s).co :=
    inLockout_foldl (fun _ c hs => inLockout_lowerByOther hs c .graded) _ h
  unfold loweringOrderReply
  split
  · exact h
  · split
    · simp [gradedLowering, others]
    · exact h

theorem inLockout_channelOrder {act : Chan → State → Reply} (ha : ∀ c, InLockout k (act c s).state.co) (p : List Word) :
    InLockout k (channelOrder act p s).state.co := by
  unfold channelOrder
  split
  · exact h
  · split
    · exact h
    · exact ha _

@[simp] theorem inLockout_becomeDown (c : Chan) : InLockout k (becomeDown c s).co :=
  inLockout_coOnChannel (s := s.modChan c (restRecord .down none)) h c _ _

theorem inLockout_channelResetOrder (c : Chan) : InLockout k (channelResetOrder c s).state.co := by
  have core : InLockout k (resetCore c s).co := by rwa [resetCore_co]
  have reset : InLockout k (resetChannel c s).co := by
    simp only [resetChannel]; split <;> simp [core]
  unfold channelResetOrder
  split
  · exact h
  · split
    · exact h
    · exact reset

theorem inLockout_channelLowerOrder (c : Chan) : InLockout k (channelLowerOrder c s).state.co := by
  unfold channelLowerOrder
  split
  · exact h
  · split
    · exact h
    · split
      · simp [h]
      · exact h

theorem inLockout_remapOrder (p : List Word) : InLockout k (remapOrder p s).state.co := by
  unfold remapOrder
  split
  · split
    · split
      · exact h
      · split <;> exact h
    · exact h
  · exact h

theorem inLockout_endRunAndLower (why : EndReason) : InLockout k (endRunAndLower why s).co := by
  unfold endRunAndLower; split <;> simp [h]

theorem inLockout_iceSeasonOrder (p : List Word) : InLockout k (iceSeasonOrder p s).state.co := by
  unfold iceSeasonOrder
  split
  · exact h
  · split
    · exact h
    · simp only [accept_state, setSeason]
      split
      · exact h
      · split
        · exact h
        · exact inLockout_endRunAndLower (by exact h) _

/-- SCRAPE starts a run in POWERED alone (R98). -/
theorem inLockout_scrapeOrder : InLockout k (scrapeOrder s).state.co := by
  unfold scrapeOrder
  split
  · exact h
  · rw [if_pos (.inl (by rw [h.1]; nofun))]; exact h

theorem inLockout_depotAccessOrder (p : List Word) : InLockout k (depotAccessOrder p s).state.co := by
  unfold depotAccessOrder
  split
  · exact h
  · split <;> exact h

theorem inLockout_noticeFilterOrder (p : List Word) : InLockout k (noticeFilterOrder p s).state.co := by
  unfold noticeFilterOrder
  split
  · split
    · split <;> exact h
    · exact h
  · exact h

theorem inLockout_partResetOrder : InLockout k (partResetOrder s).state.co := by
  unfold partResetOrder; split <;> exact h

/-! ### Pins and expiries -/

theorem inLockout_requestDeasserted : InLockout k (requestDeasserted s).co := by
  simp only [requestDeasserted]
  split
  · rw [releaseGrant, co_announceAbsent]
    exact inLockout_roofPick (by rw [co_gateChange]; exact h)
  all_goals exact h

/-- An expiry of the controller's phase timer acts outside LOCKOUT (R59, R60, R63, R67, R68). -/
theorem coPhase_lockout {st : CoState} (outside : st ≠ .lockout) (t : CoTimer) : coPhase s st t = false := by
  simp [coPhase, h.1, outside.symm]

theorem inLockout_expireSilence : InLockout k (expireSilence s).co := by
  simp only [expireSilence]; split
  · exact h
  · exact inLockout_powerDown (by exact h)

end

/-! ### Commands -/

theorem inLockout_react {act : State → State} {s t : State} {k : LockoutCause} (h : InLockout k (act s).co)
    (e : react act s = .next t) : InLockout k t.co := by
  cases e; exact inLockout_settle h s

/-- A management request whose own rule keeps LOCKOUT, with what follows it. -/
theorem inLockout_request {decide : State → Reply} {q c : Byte} {s t : State} {k : LockoutCause} (h : InLockout k s.co)
    (hd : ∀ {u}, InLockout k u.co → InLockout k (decide u).state.co) (e : react (manage q c decide) s = .next t) :
    InLockout k t.co := by
  refine inLockout_react ?_ e
  have decided := hd (u := trainFrameTaken s) h
  simp [manage, respond, decided, h]

/-- CLEAR-LOCKOUT and the resets of the part, which may end LOCKOUT (R79, R80). -/
def endsLockout (s : State) : Instr → Prop
  | .clearLockout .. | .powerOnReset => True
  | .trainTransmissionComplete => s.train.resetPending = true
  | _ => False

theorem exec_inLockout {c : Instr} {s t : State} {k : LockoutCause} (h : InLockout k s.co) (hc : ¬ endsLockout s c)
    (e : exec c s = .next t) : InLockout k t.co := by
  cases c with
  | powerOnReset | clearLockout => exact absurd trivial hc
  | roofFrameIgnored | trainFrameIgnored => cases e; exact h
  | roofFrameCheckFailure kind | trainFrameCheckFailure kind => exact inLockout_react (by exact h) e
  | sample n q p => exact inLockout_react (inLockout_takeRoofFrame h n q _) e
  | contact n q p | breakerState n q p | switchState n q p | contactorState n q p | announce n q p =>
    exact inLockout_react (inLockout_takeRoofFrame h n q _) e
  | ack n q c p | unknownReport n q c p => exact inLockout_react (inLockout_takeRoofFrame h n q _) e
  | unknownRequest q c p => exact inLockout_request h id e
  | readStatus q p => exact inLockout_request h (fun h => (readRecord_isRead p _).state.symm ▸ h) e
  | readEntry q p => exact inLockout_request h (fun h => (readTable_isRead p _).state.symm ▸ h) e
  | loadEntrySystem q l => exact inLockout_request h (inLockout_loadSystem · l) e
  | loadEntryPosition q l => exact inLockout_request h (inLockout_loadPosition · l) e
  | loadEntryZone q l => exact inLockout_request h (inLockout_loadZone · l) e
  | loadEntryNode q l => exact inLockout_request h (inLockout_loadNode · l) e
  | loadEntryWindow q l => exact inLockout_request h (inLockout_loadWindow · l) e
  | loadEntryInterlock q l => exact inLockout_request h (inLockout_loadInterlock · l) e
  | loadEntryConfig q l => exact inLockout_request h (inLockout_loadConfig · l) e
  | clearEntrySystem q l => exact inLockout_request h (inLockout_clearSystem · l) e
  | clearEntryWindow q l => exact inLockout_request h (inLockout_clearWindow · l) e
  | clearEntryInterlock q l => exact inLockout_request h (inLockout_clearInterlock · l) e
  | clearEntryPosition q l => exact inLockout_request h (inLockout_clearPosition · l) e
  | clearEntryZone q l => exact inLockout_request h (inLockout_clearZone · l) e
  | clearEntryNode q l => exact inLockout_request h (inLockout_clearNode · l) e
  | clearEntryConfig q l => exact inLockout_request h (inLockout_clearConfig · l) e
  | nodeCommand n q c p => exact inLockout_react (by simpa using h) e
  | powerUp q p => exact inLockout_request h (inLockout_systemOrder · _ p) e
  | changeover q p => exact inLockout_request h (inLockout_systemOrder · _ p) e
  | powerDown q p => exact inLockout_request h (fun h => inLockout_heldOr h (inLockout_powerDown h)) e
  | neutralAhead q p => exact inLockout_request h (fun h => inLockout_heldOr h (inLockout_neutralAheadOrder h)) e
  | sectionClear q p => exact inLockout_request h (fun h => inLockout_heldOr h (inLockout_sectionClearOrder h)) e
  | loweringOrder q p => exact inLockout_request h (inLockout_loweringOrderReply · p) e
  | channelReset q p => exact inLockout_request h (fun h => inLockout_channelOrder h (inLockout_channelResetOrder h) p) e
  | channelLower q p => exact inLockout_request h (fun h => inLockout_channelOrder h (inLockout_channelLowerOrder h) p) e
  | remap q p => exact inLockout_request h (inLockout_remapOrder · p) e
  | iceSeason q p => exact inLockout_request h (inLockout_iceSeasonOrder · p) e
  | scrape q p => exact inLockout_request h inLockout_scrapeOrder e
  | depotAccess q p => exact inLockout_request h (inLockout_depotAccessOrder · p) e
  | noticeFilter q p => exact inLockout_request h (inLockout_noticeFilterOrder · p) e
  | partReset q p => exact inLockout_request h inLockout_partResetOrder e
  | takeoverRequestAsserted => exact inLockout_react (by exact h) e
  | takeoverRequestDeasserted => exact inLockout_react (inLockout_requestDeasserted h) e
  | roofTransmissionComplete => exact inLockout_react (by simpa using h) e
  | trainTransmissionComplete =>
    refine inLockout_react ?_ e
    simp only [trainComplete]
    split
    · exact h
    · rw [if_neg fun both => hc both.2]; exact h
  | sampleTimeout => exact inLockout_react (inLockout_expireSample h) e
  | raiseWindowExpiry c => exact inLockout_react (by simp [expireRaiseWindow, h]) e
  | lowerWindowExpiry c => exact inLockout_react (by simp [expireLowerWindow, lowerWindowExpired, h]) e
  | lowerRepetition c => exact inLockout_react (by simp [expireLowerRep, h]) e
  | cooldownExpiry c => exact inLockout_react (by simp [expireCooldown, h]) e
  | channelSustainTimerExpiry c => exact inLockout_react (by simp [expireChanSustain, h]) e
  | breakerSustainTimerExpiry =>
    refine inLockout_react ?_ e
    unfold expireBreakerSustain
    split
    · rw [co_placeABreaker]; exact h
    · exact h
  | openRepetition => exact inLockout_react (by simp [expireOpenRep, h]) e
  | recognitionDeadlineExpiry => exact inLockout_react (by simp [expireRecognition, coPhase_lockout h, h]) e
  | switchWindowExpiry => exact inLockout_react (by simp [expireSwitchWindow, coPhase_lockout h, h]) e
  | settleIntervalExpiry => exact inLockout_react (by simp [expireSettle, coPhase_lockout h, h]) e
  | closeWindowExpiry => exact inLockout_react (by simp [expireCloseWindow, coPhase_lockout h, h]) e
  | openWindowExpiry => exact inLockout_react (by simp [expireOpenWindow, coPhase_lockout h, h]) e
  | neutralDeadlineExpiry => exact inLockout_react (by simp [expireNeutral, coPhase_lockout h, h]) e
  | tripQuietTimerExpiry =>
    refine inLockout_react ?_ e
    unfold expireTripQuiet
    split <;> exact h
  | passTimerExpiry z => exact inLockout_react (by simp [expirePassTimer, h]) e
  | staggerTimerExpiry => exact inLockout_react (by simp [expireStagger, h]) e
  | passCompletion z => exact inLockout_react (by simp [expirePass, h]) e
  | scrapeTimerExpiry =>
    refine inLockout_react ?_ e
    unfold expireScrape
    split
    · exact inLockout_endRunAndLower h _
    · exact h
  | nodeSilence n => exact inLockout_react (inLockout_nodeSilenced h n) e
  | ackDeadlineExpiry n => exact inLockout_react (inLockout_ackTimeout h n) e
  | announceRetryTimerExpiry => exact inLockout_react (by simp [expireAnnounce, h]) e
  | trainLinkSilenceExpiry => exact inLockout_react (inLockout_expireSilence h) e

/-- Settles O12: in LOCKOUT every reaction of the controller leaves state and cause, and only CLEAR-LOCKOUT and the resets go
past the controller. -/
theorem lockoutStaysUntilCleared : Obligations.LockoutStaysUntilCleared := by
  intro c s t lockout e noClear noPowerOn notPending
  refine exec_inLockout ⟨lockout, rfl⟩ (fun hc => ?_) e
  cases c with
  | powerOnReset => exact noPowerOn rfl
  | clearLockout q p => exact noClear q p rfl
  | trainTransmissionComplete => rw [endsLockout, notPending rfl] at hc; cases hc
  | _ => exact hc

end Sys2Proof.Machine

namespace Sys2Proof.Machine

/-! ## BREAKER-STATE and SWITCH-STATE reports that are taken -/

/-- The state in which node n has been heard from (R106). -/
def heardNode (s : State) (n : Node) : State := { s with nodes := upd s.nodes n heardFrom }

@[simp] theorem heardNode_co (s : State) (n : Node) : (heardNode s n).co = s.co := rfl

theorem heardNode_role (s : State) (n m : Node) : (heardNode s n).nodes[m].role = s.nodes[m].role := by
  by_cases h : n = m
  · subst h; simp only [heardNode, upd_self, heardFrom]
  · simp only [heardNode, upd_other _ _ h]

/-- Who holds a role does not depend on who was heard from (R107). -/
theorem heardNode_nodeOf? (s : State) (n : Node) (r : Role) : nodeOf? (heardNode s n) r = nodeOf? s r := by
  simp only [nodeOf?, heardNode_role]

section
variable {s v : State} {n : Node} {w : Word} (h : Taken s n)
include h

/-- A BREAKER-STATE report of the BREAKER node: its effect on the controller, the offer to the mirror, and the outcomes owed. -/
theorem exec_breaker_drains {b : BreakerPos} (role : s.nodes[n].role = .breaker) (hw : breakerFields? w = some (.breaker b))
    (q : Byte) (rest : List Word) : exec (.breakerState n q (w :: rest)) s =
      .next (follows s (drain (offerMirror ⟨n, .report, q, 2, w :: rest⟩ (breakerReport b (heardNode s n))))) := by
  have holds : report? 2 (w :: rest) = some (.breaker b) := hw
  have takes : takeReport n q 2 (w :: rest) s =
      offerMirror ⟨n, .report, q, 2, w :: rest⟩ (breakerReport b (heardNode s n)) := by
    rw [takeReport_taken h holds, deliverReport]
    exact congrArg _ (if_pos ((heardNode_role s n n).trans role))
  exact congrArg (fun t => Host.Outcome.next (follows s (drain t))) takes

theorem exec_breaker {b : BreakerPos} (role : s.nodes[n].role = .breaker) (hw : breakerFields? w = some (.breaker b))
    (e : breakerReport b (heardNode s n) = v) (ho : v.owed = []) (q : Byte) (rest : List Word) :
    exec (.breakerState n q (w :: rest)) s = .next (follows s (offerMirror ⟨n, .report, q, 2, w :: rest⟩ v)) := by
  rw [exec_breaker_drains h role hw, e, drain_nil _ ((offerMirror_owed ..).trans ho)]

/-- A SWITCH-STATE report of the CHANGEOVER-SWITCH node, by its effect on the controller. -/
theorem exec_switch (role : s.nodes[n].role = .changeoverSwitch) (hw : w.toNat ≤ 4)
    (e : switchReport w.toNat (heardNode s n) = v) (ho : v.owed = []) (q : Byte) (rest : List Word) :
    exec (.switchState n q (w :: rest)) s = .next (follows s (offerMirror ⟨n, .report, q, 3, w :: rest⟩ v)) := by
  refine react_eq_of ?_ ((offerMirror_owed ..).trans ho)
  have holds : report? 3 (w :: rest) = some (.switch w.toNat) := if_pos hw
  rw [takeReport_taken h holds, deliverReport]
  exact congrArg _ ((if_pos ((heardNode_role s n n).trans role)).trans e)

end

/-! ## The switch (R60, R61) -/

/-- The switch stands where its last report shows the active system's position. -/
theorem switchStands_eq {s : State} {k : SysId} {e : SysEntry} {p : Nat} (active : s.co.active = some k)
    (entry : sysEntry? s k = some e) (last : s.co.lastSwitch = some p) : switchStands s = decide (e.switchPos = p) := by
  simp only [switchStands, activeSwitch?, activeEntry?, active, last, Option.bind_some, entry, Option.map_some]

/-- The controller's record after a report of position p. -/
def switchSeen (s : State) (p : Nat) : State := s.modCo fun r => { r with lastSwitch := some p }

section
variable {s : State} {p : Nat}

theorem switchReport_recorded (switching : s.co.state ≠ .switching) (closing : s.co.state ≠ .closing)
    (powered : s.co.state ≠ .powered) : switchReport p s = switchSeen s p := by
  simp only [switchReport]
  split
  · exact absurd ‹_› switching
  · exact absurd ‹_› closing
  · exact absurd ‹_› powered
  all_goals rfl

section
variable {k : SysId} {e : SysEntry} (active : s.co.active = some k) (entry : sysEntry? s k = some e)
include active entry

theorem switchReport_closed (here : s.co.state = .closing ∨ s.co.state = .powered) (shows : p = e.switchPos) :
    switchReport p s = switchSeen s p := by
  simp only [switchReport]
  generalize seen : (s.modCo fun r => { r with lastSwitch := some p }) = t
  have stands : switchStands t = true := by
    subst seen; exact (switchStands_eq (s := switchSeen s p) active entry rfl).trans (decide_eq_true shows.symm)
  have state : t.co.state = .closing ∨ t.co.state = .powered := by subst seen; exact here
  obtain e | e := state <;> simp only [e, stands, if_true] <;> exact seen.symm

theorem switchReport_switching (here : s.co.state = .switching) :
    switchReport p s = switchWhileSwitching (decide (e.switchPos = p)) (switchSeen s p) := by
  rw [← switchStands_eq (s := switchSeen s p) active entry rfl]
  simp only [switchReport]
  generalize seen : (s.modCo fun r => { r with lastSwitch := some p }) = t
  have state : t.co.state = .switching := by subst seen; exact here
  simp only [state]
  subst seen
  rfl

end
end

/-- Settles O29: the report is recorded, and while SWITCHING it decides which of the two phases runs. -/
theorem switchReportIsTaken : Obligations.SwitchReportIsTaken := by
  intro s n q w rest taken role low
  have takes {v : State} (e : switchReport w.toNat (heardNode s n) = v) (ho : v.owed = []) :=
    exec_switch taken role low e ho q rest
  refine ⟨fun switching closing powered =>
    takes (switchReport_recorded (by exact switching) (by exact closing) (by exact powered)) taken.owed,
    fun k e active entry => ⟨fun here shows =>
      takes (switchReport_closed (s := heardNode s n) active entry here shows) taken.owed, fun left here window => ?_,
      fun left here settling => ?_⟩⟩
  all_goals
    have switches := switchReport_switching (s := heardNode s n) (p := w.toNat) active entry here
  · have runs : (switchSeen (heardNode s n) w.toNat).co.phase = some (.switchWindow, left) := window
    refine ⟨fun other => takes ?_ taken.owed, fun shows settles => takes ?_ taken.owed⟩
    · simp only [switches, switchWhileSwitching, runs, decide_eq_false (Ne.symm other), Bool.false_eq_true, if_false]
      rfl
    · simp only [switches, switchWhileSwitching, runs, decide_eq_true shows.symm, if_true]
      exact if_neg settles
  · have runs : (switchSeen (heardNode s n) w.toNat).co.phase = some (.settleInterval, left) := settling
    refine ⟨fun shows => takes ?_ taken.owed, fun other => takes ?_ taken.owed⟩
    · simp only [switches, switchWhileSwitching, runs, decide_eq_true shows.symm, if_true]
      rfl
    · simp only [switches, switchWhileSwitching, runs, decide_eq_false (Ne.symm other), Bool.false_eq_true, if_false]
      rfl

end Sys2Proof.Machine

namespace Sys2Proof.Machine

/-! ## Commands of the Heater Scheduler, and the outcomes they owe (R96, R117, R123) -/

/-- A placement of anything but a RAISE changes class B alone, and owes at most the outcome of its own command (R117, R126). -/
theorem placeB_eq (n : Node) {c : BCmd} (h : ∀ ch, c ≠ .raise ch) (s : State) : ∃ k l o, (∀ x ∈ o, x.cmd = c) ∧
    placeB n c s = { s with serial := k, roof := { s.roof with classB := l }, owed := s.owed ++ o } := by
  have kept (t : State) : raiseClearsLower n c t = t := by
    cases c with
    | raise ch => exact absurd rfl (h ch)
    | _ => rfl
  have owes : ∀ x ∈ [(⟨c, s.serial⟩ : Owed)], x.cmd = c := fun x hx => by rw [List.mem_singleton.1 hx]
  simp only [placeB]
  split
  · exact ⟨_, _, _, owes, rfl⟩
  · split
    · exact ⟨_, _, _, owes, rfl⟩
    · exact ⟨_, _, [], nofun, by rw [kept, List.append_nil]; rfl⟩

/-- The outcomes owed are those of heater commands. -/
def OwesHeat (s : State) : Prop := ∀ o ∈ s.owed, ∃ z, o.cmd = .heatOn z ∨ o.cmd = .heatOff z

theorem owesHeat_nil {s : State} (h : s.owed = []) : OwesHeat s := fun o ho => by rw [h] at ho; cases ho

/-- t differs from s at most in zones, stagger timer, class B, notices, and the outcomes owed of heater commands. -/
structure HeatersOnly (s t : State) : Prop where
  heat : HeatOnly s t
  scrape : t.scrape = s.scrape
  owes : OwesHeat s → OwesHeat t

namespace HeatersOnly

theorem refl (s : State) : HeatersOnly s s := ⟨.refl s, rfl, id⟩

theorem trans {s t u : State} (a : HeatersOnly s t) (b : HeatersOnly t u) : HeatersOnly s u :=
  ⟨a.heat.trans b.heat, b.scrape.trans a.scrape, b.owes ∘ a.owes⟩

theorem fold {α : Type} {f : State → α → State} (h : ∀ s x, HeatersOnly s (f s x)) (l : List α) (s : State) :
    HeatersOnly s (l.foldl f s) := by
  induction l generalizing s with
  | nil => exact .refl s
  | cons x l ih => exact (h s x).trans (ih _)

theorem modZone (z : Zone) (f : ZoneRec → ZoneRec) (s : State) : HeatersOnly s (s.modZone z f) := ⟨.modZone z f s, rfl, id⟩

theorem notice (d : NoticeData) (s : State) : HeatersOnly s (queueNotice d s) := ⟨.notice d s, rfl, id⟩

theorem stagger (x : Option Nat) (s : State) : HeatersOnly s { s with stagger := x } := ⟨.stagger x s, rfl, id⟩

theorem placeB (n : Node) {c : BCmd} {z : Zone} (h : c = .heatOn z ∨ c = .heatOff z) (s : State) :
    HeatersOnly s (placeB n c s) := by
  have noRaise (ch : Chan) : c ≠ .raise ch := by obtain rfl | rfl := h <;> nofun
  obtain ⟨k, l, o, own, e⟩ := placeB_eq n noRaise s
  refine ⟨.placeB n noRaise s, by rw [e], fun only x hx => ?_⟩
  rw [e] at hx
  obtain old | new := List.mem_append.1 hx
  · exact only x old
  · exact ⟨z, by rwa [own x new]⟩

theorem heatOn (z : Zone) (s : State) : HeatersOnly s (placeHeatOn z s) := by
  unfold placeHeatOn
  split
  · exact .refl s
  · exact .placeB _ (.inl rfl) s

theorem heatOffUnlessMismatch (z : Zone) (s : State) : HeatersOnly s (placeHeatOffUnlessMismatch z s) := by
  unfold placeHeatOffUnlessMismatch
  split
  · exact .refl s
  · split
    · exact .refl s
    · exact .placeB _ (.inr rfl) s

theorem heats (z : Zone) (s : State) : HeatersOnly s (Machine.heat z s) :=
  ((modZone z _ s).trans (heatOn z _)).trans (stagger _ _)

theorem pauseZone (z : Zone) (s : State) : HeatersOnly s (pauseZone z s) := (modZone z _ s).trans (heatOffUnlessMismatch z _)

theorem closeGate (s : State) : HeatersOnly s (closeGate s) := by
  refine HeatersOnly.trans (fold (fun s z => ?_) (List.finRange 10) s) (stagger none _)
  split
  · exact pauseZone z s
  · exact .refl s

theorem startDecisionBut (but : Option Zone) (s : State) : HeatersOnly s (startDecisionBut but s) := by
  have starts (z : Zone) (t : State) : HeatersOnly t (startZone z t) := (modZone z _ t).trans (heats z _)
  have queue : HeatersOnly s (startFromQueue but s) := by
    unfold startFromQueue
    split
    · exact .refl s
    · split
      · exact starts _ s
      · split
        · split
          · exact .refl s
          · exact (starts _ s).trans (modZone _ _ _)
        · exact .refl s
  unfold Machine.startDecisionBut
  split
  · split
    · exact heats _ s
    · exact queue
  · exact .refl s

theorem openGate (s : State) : HeatersOnly s (openGate s) := by
  have resumes (t : State) (z : Zone) : HeatersOnly t (resumeIfAble t z) := by
    unfold resumeIfAble
    split
    · exact heats z t
    · exact .refl t
  simp only [Machine.openGate]
  split
  · exact fold resumes _ s
  · exact (fold resumes _ s).trans (startDecisionBut none _)

theorem gateChange (was : Bool) (s : State) : HeatersOnly s (gateChange was s) := by
  unfold Machine.gateChange
  split
  · exact closeGate s
  · split
    · exact openGate s
    · exact .refl s

theorem contactorFailure (z : Zone) (kind : ZoneFailure) (s : State) : HeatersOnly s (contactorFailure z kind s) :=
  (((modZone z _ s).trans (heatOffUnlessMismatch z _)).trans (notice _ _)).trans (startDecisionBut _ _)

/-- The outcome of a heater command is the scheduler's alone (R96). -/
theorem deliverPart {c : BCmd} {z : Zone} (h : c = .heatOn z ∨ c = .heatOff z) (n : Nat) (o : CmdOutcome) (s : State) :
    HeatersOnly s (deliverPart c n o s) := by
  obtain rfl | rfl := h
  · simp only [Machine.deliverPart]
    split
    · cases o
      · exact .refl s
      all_goals exact contactorFailure ..
    · exact .refl s
  · simp only [Machine.deliverPart]
    split
    · exact .refl s
    · exact notice _ s

theorem payOwed {s : State} (h : OwesHeat s) (n : Nat) : HeatersOnly s (payOwed n s) := by
  induction n generalizing s with
  | zero => exact .refl s
  | succ n ih =>
    have paid : HeatersOnly s (payOne s) := by
      unfold payOne
      split
      · exact .refl s
      · next o rest owed =>
        obtain ⟨z, heats⟩ := h o (by rw [owed]; exact List.mem_cons_self ..)
        have taken : HeatersOnly s { s with owed := rest } :=
          ⟨by constructor <;> rfl, rfl, fun only x hx => only x (by rw [owed]; exact List.mem_cons_of_mem o hx)⟩
        exact taken.trans (deliverPart heats ..)
    simp only [Machine.payOwed]
    split
    · exact .refl s
    · exact paid.trans (ih (paid.owes h))

theorem drain {s : State} (h : OwesHeat s) : HeatersOnly s (drain s) :=
  (payOwed h _).trans ⟨by constructor <;> rfl, rfl, fun _ => nofun⟩

end HeatersOnly

/-! ## BREAKER-STATE reports (R50, R51, R63, R66) -/

/-- An offer to the mirror changes the forwarder's record and the notices alone (R142 to R145). -/
theorem offerMirror_eq (m : MirrorCopy) (s : State) : ∃ f k, offerMirror m s = { s with fwd := f, train := k } := by
  simp only [offerMirror, takeCopy]
  split
  · exact ⟨_, _, rfl⟩
  · split
    · split <;> exact ⟨_, _, rfl⟩
    · exact ⟨_, _, rfl⟩

section
variable {s : State}

theorem breakerReport_opened (powered : s.co.state ≠ .powered) (opening : s.co.state ≠ .opening) :
    breakerReport .opened s = s.modCo (breakerRecord .opened) := by
  simp only [breakerReport]
  rw [if_neg (by exact powered), if_neg (by exact opening)]

/-- CLOSED where the breaker may stand closed, or where nothing is done about it (R63, R66; logs 19, 51). -/
theorem breakerReport_closed (quiet : turnsOpenRepOn s.co = false) (early : s.co.state = .closing → s.co.close ≠ .transmitted) :
    breakerReport .closed s = s.modCo (breakerRecord .closed) := by
  simp only [breakerReport]
  rw [if_neg (by rw [Bool.not_eq_true]; exact quiet), if_neg fun closes => early closes.1 closes.2]

/-- CLOSED where the breaker is meant to be open (R51). -/
theorem breakerReport_uncommanded (meant : turnsOpenRepOn s.co = true) {b : Node} (hb : nodeOf? s .breaker = some b) :
    breakerReport .closed s = { s with
      co := { s.co with lastBreaker := some .closed, openRep := some 100 }
      roof := { s.roof with classA := s.roof.classA.set b (some .opn) } } := by
  simp only [breakerReport]
  rw [if_pos (by exact meant), openRepOn, placeABreaker_eq (b := b) (by exact hb), ← upd_slotAfter _ _ (by nofun)]
  rfl

theorem breakerReport_powers (closing : s.co.state = .closing) (departed : s.co.close = .transmitted) :
    breakerReport .closed s = enterPowered (s.modCo (breakerRecord .closed)) := by
  have quiet : turnsOpenRepOn s.co = false := by simp [turnsOpenRepOn, meantOpen, closing]
  simp only [breakerReport]
  rw [if_neg (by rw [Bool.not_eq_true]; exact quiet), if_pos ⟨by exact closing, by exact departed⟩]

/-- The record with which POWERED is entered (R65). -/
def poweredRecord (r : Changeover) : Changeover :=
  changeRecord .powered { r with
    phase := none, substituteUsed := false, neutralAnnounced := false
    tripQuiet := if r.trips = 1 then some Config.tripQuietMs else none }

theorem enterPowered_heats (s : State) : HeatersOnly (s.modCo poweredRecord) (enterPowered s) := by
  rw [enterPowered, setCo, if_neg (show ¬ endsRun .powered = true from nofun)]
  exact .gateChange _ _

theorem poweredRecord_closing {r : Changeover} (h : r.state = .closing) : poweredRecord (breakerRecord .closed r) = { r with
    state := .powered, lastBreaker := some .closed, phase := none, substituteUsed := false, neutralAnnounced := false,
    tripQuiet := if r.trips = 1 then some 60000 else none } := by
  simp [poweredRecord, breakerRecord, changeRecord, h]
  rfl

end

/-- Settles O28: outside the entry to POWERED the report changes the controller's record and the breaker's slot alone; that entry
adds what the gate that opens lets the scheduler do, and the outcomes it owes are heater commands'. -/
theorem breakerReportIsTaken : Obligations.BreakerReportIsTaken := by
  refine ⟨fun s n q w rest b taken role named fields => ?_, fun s n q w rest taken role fields closing departed => ?_⟩
  · have takes {v : State} (e : breakerReport b (heardNode s n) = v) (ho : v.owed = []) :=
      exec_breaker taken role fields e ho q rest
    refine ⟨?_, ?_, ?_⟩
    · rintro rfl powered opening
      refine takes ((breakerReport_opened (by exact powered) (by exact opening)).trans ?_) taken.owed
      simp [breakerRecord, State.modCo, heardNode]
    · rintro (rfl | ⟨rfl, here⟩)
      · exact takes rfl taken.owed
      · refine takes (breakerReport_closed ?_ ?_) taken.owed
        · obtain ⟨e, plan⟩ | e | e | ⟨e, _⟩ := here <;> simp [turnsOpenRepOn, meantOpen, e]
          exact decide_eq_false plan
        · intro e
          obtain ⟨e', _⟩ | e' | e' | ⟨_, early⟩ := here
          case inr.inr.inr => exact early
          all_goals cases e.symm.trans e'
    · rintro rfl here
      refine takes (breakerReport_uncommanded ?_ ((heardNode_nodeOf? ..).trans named)) taken.owed
      obtain e | e | e | e | e | e | e | ⟨e, plan⟩ := here <;> simp [turnsOpenRepOn, meantOpen, *]
  · have seen : (heardNode s n).co.state = .closing := closing
    obtain ⟨f, k, offers⟩ := offerMirror_eq ⟨n, .report, q, 2, w :: rest⟩ (breakerReport .closed (heardNode s n))
    rw [breakerReport_powers seen departed] at offers
    have entry := enterPowered_heats ((heardNode s n).modCo (breakerRecord .closed))
    have owes : OwesHeat (enterPowered ((heardNode s n).modCo (breakerRecord .closed))) :=
      entry.owes (owesHeat_nil (by exact taken.owed))
    have pays := HeatersOnly.drain (s := { enterPowered _ with fwd := f, train := k }) owes
    refine ⟨_, exec_breaker_drains taken role fields q rest, ?_⟩
    rw [breakerReport_powers seen departed, offers]
    exact ⟨pays.heat.co.trans (entry.heat.co.trans (poweredRecord_closing closing)), pays.heat.channels.trans entry.heat.channels,
      pays.heat.positions.trans entry.heat.positions, pays.heat.recog.trans entry.heat.recog, pays.scrape.trans entry.scrape,
      pays.heat.systems.trans entry.heat.systems, pays.heat.nodes.trans entry.heat.nodes⟩

end Sys2Proof.Machine

namespace Sys2Proof.Machine

/-! ## Power path orders (R54, R55, R70 to R76, R79) -/

/-- A state of the path that is on its way to another (R54, R55). -/
def Between (st : CoState) : Prop :=
  st = .raising ∨ st = .recognizing ∨ st = .switching ∨ st = .closing ∨ st = .opening ∨ st = .lowering

theorem Between.not_lockout {st : CoState} (h : Between st) : st ≠ .lockout := by
  obtain rfl | rfl | rfl | rfl | rfl | rfl := h <;> nofun

/-- An order that leaves the arbiter's queues is not refused with HELD (R121, log 8). -/
theorem heldOr_quiet {order : State → Reply} {s : State} (h : (order (withoutGrant s)).state.roof = s.roof) :
    heldOr order s = order s := by
  refine if_neg fun held => held.2 ?_
  simp only [sameOwnQueues, h, and_self, decide_true]

/-- An order that changes the changeover record alone, whatever the train link's record and the grant: the answer, and no frame. -/
theorem path_answered {s : State} (h : Decides s) {decide order : State → Reply} {co : Changeover} {r : Result} {d : List Word}
    (runs : decide (trainFrameTaken s) = heldOr order (trainFrameTaken s))
    (e : ∀ x y, order { s with train := x, takeover := y } = ⟨{ s with co := co, train := x, takeover := y }, r, d⟩)
    (free : r ≠ .held) (q k : Byte) :
    react (manage q k decide) s = .next (follows s { s with co := co, train := answered s q k r d }) := by
  have quiet : (order (withoutGrant (trainFrameTaken s))).state.roof = (trainFrameTaken s).roof :=
    congrArg (fun p : Reply => p.state.roof) (e _ _)
  exact request_answered h (runs.trans ((heldOr_quiet quiet).trans (e (heard s) s.takeover))) free h.owed q k

/-! ### POWER-UP and CHANGEOVER -/

section
variable {s : State} {w : Word} (order : SysId → State → Reply) (rest : List Word)

theorem systemOrder_lockout (h : s.co.state = .lockout) : systemOrder order (w :: rest) s = refuse s .lockedOut := if_pos h

theorem systemOrder_unknown (h : s.co.state ≠ .lockout) (unknown : ∀ k, w.toNat = number k → sysEntry? s k = none) :
    systemOrder order (w :: rest) s = refuse s .badEntry := by
  have names : orderedSystem? s w = none := by
    unfold orderedSystem?
    rw [Option.bind_eq_none_iff]
    intro k hk
    have named : w.toNat = number k := by
      unfold numbered? at hk
      split at hk
      · cases hk; simp only [number]; omega
      · cases hk
    rw [unknown k named]; rfl
  simp only [systemOrder, h, if_false, names]

theorem systemOrder_known (h : s.co.state ≠ .lockout) {k : SysId} (named : w.toNat = number k) (known : sysEntry? s k ≠ none) :
    systemOrder order (w :: rest) s = heldOr (order k) s := by
  have names : orderedSystem? s w = some k := by
    rw [orderedSystem?, named, numbered?_number]
    exact if_pos (Option.isSome_iff_ne_none.2 known)
  simp only [systemOrder, h, if_false, names]

end

section
variable {s : State} {k : SysId}

theorem whileBusy_eq : whileBusy k s = ⟨s, if s.co.ordered = some k then .ok else .busy, []⟩ := by
  unfold whileBusy; split <;> rfl

theorem powerUpOrder_between (h : Between s.co.state) : powerUpOrder k s = whileBusy k s := by
  obtain e | e | e | e | e | e := h <;> simp only [powerUpOrder, e]

theorem changeoverOrder_between (h : Between s.co.state) : changeoverOrder k s = whileBusy k s := by
  obtain e | e | e | e | e | e := h <;> simp only [changeoverOrder, e]

/-- The active system is ordered again in POWERED (R54). -/
theorem powerUpOrder_active (here : s.co.state = .powered) (active : s.co.active = some k) : powerUpOrder k s = accept s [] := by
  simp only [powerUpOrder, here, active, if_true]

theorem changeoverOrder_active (here : s.co.state = .powered) (active : s.co.active = some k) :
    changeoverOrder k s = accept s [] := by
  simp only [changeoverOrder, here, active, if_true]

theorem changeoverOrder_coasting (here : s.co.state = .coasting) :
    changeoverOrder k s = accept (s.modCo fun r => { r with ordered := some k }) [] := by
  simp only [changeoverOrder, here]

section
variable (line : ∀ j, s.recog.result ≠ .system j)
include line

theorem resultIsSystem_eq_false : resultIsSystem s = false := by
  unfold resultIsSystem
  split
  · next j e => exact absurd e (line j)
  · rfl

theorem resultIsActive_eq_false : resultIsActive s = false := by
  unfold resultIsActive
  split
  · next j e => exact absurd e (line j)
  · rfl

theorem reorderInNeutral_eq : reorderInNeutral k s = { s with co := { s.co with ordered := some k } } := by
  simp only [reorderInNeutral]
  exact if_neg (by rw [resultIsSystem_eq_false (by exact line)]; nofun)

theorem reclose_eq : reclose k s = { s with co := { s.co with ordered := some k, recloseGranted := true } } := by
  simp only [reclose]
  exact if_neg (by rw [resultIsActive_eq_false (by exact line)]; nofun)

theorem changeoverOrder_neutral (here : s.co.state = .neutral) :
    changeoverOrder k s = accept { s with co := { s.co with ordered := some k } } [] := by
  simp only [changeoverOrder, here, reorderInNeutral_eq line]

theorem powerUpOrder_neutral (here : s.co.state = .neutral) : powerUpOrder k s = accept { s with co := { s.co with
    ordered := some k, recloseGranted := if s.co.active = some k then true else s.co.recloseGranted } } [] := by
  simp only [powerUpOrder, here, reorderInNeutral_eq line, reclose_eq line]
  split <;> rfl

end

/-! ### NEUTRAL-AHEAD, SECTION-CLEAR and POWER-DOWN -/

theorem neutralAheadOrder_between (h : Between s.co.state) : neutralAheadOrder s = refuse s .busy := by
  obtain e | e | e | e | e | e := h <;> simp only [neutralAheadOrder, e]

theorem neutralAheadOrder_resting (h : s.co.state = .idle ∨ s.co.state = .coasting) : neutralAheadOrder s = accept s [] := by
  obtain e | e := h <;> simp only [neutralAheadOrder, e]

theorem neutralAheadOrder_neutral (h : s.co.state = .neutral) :
    neutralAheadOrder s = accept (s.modCo fun r => { r with neutralAnnounced := true }) [] := by
  simp only [neutralAheadOrder, h]

theorem sectionClearOrder_refused (coasting : s.co.state ≠ .coasting) (lockout : s.co.state ≠ .lockout) :
    sectionClearOrder s = refuse s .refusedState := by
  unfold sectionClearOrder
  split
  · exact absurd ‹_› coasting
  · exact absurd ‹_› lockout
  all_goals rfl

theorem powerDown_idle (h : s.co.state = .idle) : powerDown s = { s with co := { s.co with ordered := none } } := by
  simp only [powerDown, State.modCo, h, reduceCtorEq, if_false]

theorem powerDown_ending (h : s.co.state = .opening ∨ s.co.state = .lowering) :
    powerDown s = { s with co := { s.co with ordered := none, plan := .idle } } := by
  obtain e | e := h <;> simp only [powerDown, State.modCo, e, reduceCtorEq, if_false]

/-- The record in IDLE (R74). -/
def idleCo (r : Changeover) : Changeover := idleRecord { r with state := .idle }

theorem powerDown_coasting (h : s.co.state = .coasting) (noRun : s.scrape.run = .noRun) (rest : ∀ c, raised s c = false) :
    powerDown s = s.modCo idleCo := by
  have enters : powerDown s = enterIdle (s.modCo fun r => { r with ordered := none }) := by
    simp only [powerDown]
    generalize ordered : (s.modCo fun r => { r with ordered := none }) = t
    have here : t.co.state = .coasting := by subst ordered; exact h
    simp only [h, here, reduceCtorEq, if_false]
  have outside : (s.modCo fun r => { r with ordered := none }).co.state ≠ .powered := by
    rw [show (s.modCo fun r => { r with ordered := none }).co.state = _ from h]; nofun
  rw [enters, enterIdle_eq outside noRun rest]
  rfl

/-! ### CLEAR-LOCKOUT -/

theorem clearLockoutOrder_outside (h : s.co.state ≠ .lockout) : clearLockoutOrder s = ⟨s, .refusedState, [s.co.state.code]⟩ :=
  if_pos h

theorem clearLockoutOrder_busy (h : s.co.state = .lockout) (moves : ∃ c, moving s c = true) :
    clearLockoutOrder s = ⟨s, .busy, [s.co.state.code, movingSet s]⟩ := by
  obtain ⟨c, moves⟩ := moves
  have any : ((List.finRange 4).any fun c => moving s c) = true := List.any_eq_true.2 ⟨c, List.mem_finRange c, moves⟩
  rw [clearLockoutOrder, if_neg (not_not_intro h), if_pos any]

/-- The data of CLEAR-LOCKOUT (R178). -/
def lockoutData (s : State) : List Word :=
  [s.co.lockoutCause.code, flag s.co.openRep.isSome, BreakerPos.code s.co.lastBreaker] ++ lockedWords s

theorem clearLockoutOrder_clears (h : s.co.state = .lockout) (rest : ∀ c, moving s c = false) (noRun : s.scrape.run = .noRun) :
    clearLockoutOrder s = accept (s.modCo fun r => { idleCo r with lockoutCause := .noCause }) (lockoutData s) := by
  have none : ¬ ((List.finRange 4).any fun c => moving s c) = true := fun any => by
    obtain ⟨c, _, moves⟩ := List.any_eq_true.1 any
    rw [rest c] at moves; cases moves
  have lowered (c : Chan) : raised s c = false := Bool.eq_false_iff.2 fun up => by
    have moves := moving_eq_true (.inl up)
    rw [rest c] at moves; cases moves
  have outside : (s.modCo fun r => { r with lockoutCause := .noCause }).co.state ≠ .powered := by
    rw [show (s.modCo fun r => { r with lockoutCause := .noCause }).co.state = _ from h]; nofun
  rw [clearLockoutOrder, if_neg (not_not_intro h), if_neg none, enterIdle_eq outside noRun lowered]
  rfl

end

/-! ### The orders as commands -/

section
variable {s : State} (dec : Decides s) {co : Changeover} {r : Result} (held : r ≠ .held) (q : Byte) (rest : List Word)
include dec held

theorem exec_neutralAhead (e : ∀ x y,
    neutralAheadOrder { s with train := x, takeover := y } = ⟨{ s with co := co, train := x, takeover := y }, r, []⟩) :
    exec (.neutralAhead q rest) s = .next (follows s { s with co := co, train := answered s q 19 r [] }) :=
  path_answered dec (decide := heldOr neutralAheadOrder) rfl e held q 19

theorem exec_sectionClear (e : ∀ x y,
    sectionClearOrder { s with train := x, takeover := y } = ⟨{ s with co := co, train := x, takeover := y }, r, []⟩) :
    exec (.sectionClear q rest) s = .next (follows s { s with co := co, train := answered s q 20 r [] }) :=
  path_answered dec (decide := heldOr sectionClearOrder) rfl e held q 20

variable {k : SysId} {w : Word} (free : s.co.state ≠ .lockout) (named : w.toNat = number k) (known : sysEntry? s k ≠ none)
include free named known

theorem exec_powerUp (e : ∀ x y,
    powerUpOrder k { s with train := x, takeover := y } = ⟨{ s with co := co, train := x, takeover := y }, r, []⟩) :
    exec (.powerUp q (w :: rest)) s = .next (follows s { s with co := co, train := answered s q 16 r [] }) :=
  path_answered dec (systemOrder_known (s := trainFrameTaken s) powerUpOrder rest free named known) e held q 16

theorem exec_changeover (e : ∀ x y,
    changeoverOrder k { s with train := x, takeover := y } = ⟨{ s with co := co, train := x, takeover := y }, r, []⟩) :
    exec (.changeover q (w :: rest)) s = .next (follows s { s with co := co, train := answered s q 18 r [] }) :=
  path_answered dec (systemOrder_known (s := trainFrameTaken s) changeoverOrder rest free named known) e held q 18

end

theorem exec_powerDown {s : State} (dec : Decides s) {co : Changeover} (q : Byte) (rest : List Word)
    (e : ∀ x y, powerDown { s with train := x, takeover := y } = { s with co := co, train := x, takeover := y }) :
    exec (.powerDown q rest) s = .next (follows s { s with co := co, train := answered s q 17 .ok [] }) :=
  path_answered dec (decide := powerDownOrder) (r := .ok) (d := []) rfl (fun x y => congrArg (accept · []) (e x y)) nofun q 17

/-- Settles O46: each order changes at most the controller's record, so that a grant holds none of them back. -/
theorem pathOrdersThatQueueNoFrame : Obligations.PathOrdersThatQueueNoFrame := by
  intro s q w rest dec told idle bound here
  refine ⟨fun lockout => ?_, fun free unknown => ?_, fun way => ?_, fun coasting lockout => ?_, fun rests => ?_,
    fun neutral => ?_, fun idles => ?_, fun ends => ?_, fun coasting noRun down => ?_, fun k named known => ⟨fun way r hr => ?_, fun coasting => ?_,
      fun powered active => ?_, fun neutral line => ?_⟩, fun outside => ?_, fun lockout moves => ?_,
    fun lockout still noRun => ?_⟩
  · refine ⟨?_, ?_, ?_, ?_, ?_⟩
    · exact request_refused dec (systemOrder_lockout (s := trainFrameTaken s) _ rest lockout) nofun q 16
    · exact request_refused dec (systemOrder_lockout (s := trainFrameTaken s) _ rest lockout) nofun q 18
    · exact exec_neutralAhead dec (by nofun) q rest fun x y => by simp only [neutralAheadOrder, lockout]; rfl
    · exact exec_sectionClear dec (by nofun) q rest fun x y => by simp only [sectionClearOrder, lockout]; rfl
    · exact exec_powerDown dec q rest fun x y => powerDown_lockout (by exact lockout)
  · exact ⟨request_refused dec (systemOrder_unknown (s := trainFrameTaken s) _ rest free unknown) nofun q 16,
      request_refused dec (systemOrder_unknown (s := trainFrameTaken s) _ rest free unknown) nofun q 18⟩
  · exact exec_neutralAhead dec (by nofun) q rest fun x y => neutralAheadOrder_between (by exact way)
  · exact exec_sectionClear dec (by nofun) q rest fun x y => sectionClearOrder_refused (by exact coasting) (by exact lockout)
  · exact exec_neutralAhead dec (by nofun) q rest fun x y => neutralAheadOrder_resting (by exact rests)
  · exact exec_neutralAhead dec (by nofun) q rest fun x y => neutralAheadOrder_neutral (by exact neutral)
  · exact exec_powerDown dec q rest fun x y => powerDown_idle (by exact idles)
  · exact exec_powerDown dec q rest fun x y => powerDown_ending (by exact ends)
  · exact exec_powerDown dec q rest fun x y => powerDown_coasting (by exact coasting) (by exact noRun) (by exact down)
  · subst hr
    have free := Between.not_lockout way
    have held : (if s.co.ordered = some k then Result.ok else .busy) ≠ .held := by split <;> nofun
    exact ⟨exec_powerUp dec held q rest free named known fun x y => (powerUpOrder_between (by exact way)).trans whileBusy_eq,
      exec_changeover dec held q rest free named known fun x y => (changeoverOrder_between (by exact way)).trans whileBusy_eq⟩
  · exact exec_changeover dec (by nofun) q rest (by rw [coasting]; nofun) named known fun x y =>
      changeoverOrder_coasting (by exact coasting)
  · have free : s.co.state ≠ .lockout := by rw [powered]; nofun
    exact ⟨exec_powerUp dec (by nofun) q rest free named known fun x y =>
        powerUpOrder_active (by exact powered) (by exact active),
      exec_changeover dec (by nofun) q rest free named known fun x y =>
        changeoverOrder_active (by exact powered) (by exact active)⟩
  · have free : s.co.state ≠ .lockout := by rw [neutral]; nofun
    exact ⟨exec_changeover dec (by nofun) q rest free named known fun x y =>
        changeoverOrder_neutral (by exact line) (by exact neutral),
      exec_powerUp dec (by nofun) q rest free named known fun x y => powerUpOrder_neutral (by exact line) (by exact neutral)⟩
  · exact request_answered dec (clearLockoutOrder_outside (s := trainFrameTaken s) outside) nofun dec.owed q 21
  · exact request_answered dec (clearLockoutOrder_busy (s := trainFrameTaken s) lockout moves) nofun dec.owed q 21
  · have repetition : flag s.co.openRep.isSome = if s.co.openRep = none then 0 else 1 := by cases s.co.openRep <;> rfl
    have data : lockoutData s = [s.co.lockoutCause.code, if s.co.openRep = none then 0 else 1, BreakerPos.code s.co.lastBreaker] ++
        lockedWords s := by rw [lockoutData, repetition]
    rw [lockedWords] at data
    have clears := clearLockoutOrder_clears (s := trainFrameTaken s) lockout still noRun
    refine (request_answered dec clears nofun dec.owed q 21).trans ?_
    rw [show lockoutData (trainFrameTaken s) = _ from data]
    rfl

end Sys2Proof.Machine

namespace Sys2Proof.Machine

/-! ## Orders that leave POWERED (R67, R73, R75, R76, R88, R89, R170) -/

/-! ### The gate that closes over HEATING zones -/

/-- A zone's record after the gate closes (R89). -/
def pausedRecord (r : ZoneRec) : ZoneRec := { r with state := if r.state = .heating then .paused else r.state }

theorem pausedRecord_off {r : ZoneRec} (h : r.state ≠ .heating) : pausedRecord r = r := by simp only [pausedRecord, h, if_false]

theorem pausedRecord_twice (r : ZoneRec) : pausedRecord (pausedRecord r) = pausedRecord r := by
  by_cases h : r.state = .heating <;> simp [pausedRecord, h]

/-- A zone the scan has reached is paused. -/
theorem foldl_paused (l : List Zone) (v : Vector ZoneRec 10) (z : Zone) :
    (l.foldl (fun v z => upd v z pausedRecord) v)[z] = if z ∈ l then pausedRecord v[z] else v[z] := by
  induction l generalizing v with
  | nil => simp
  | cons x l ih =>
    rw [List.foldl_cons, ih, upd_get]
    by_cases e : x = z
    · subst e; simp [pausedRecord_twice]
    · simp [e, Ne.symm e]

/-- The outcomes o are owed for HEAT-OFF commands. -/
def OffOnly (o : List Owed) : Prop := ∀ x ∈ o, ∃ z, x.cmd = .heatOff z

theorem OffOnly.append {o o' : List Owed} (h : OffOnly o) (h' : OffOnly o') : OffOnly (o ++ o') := fun x hx =>
  (List.mem_append.1 hx).elim (h x) (h' x)

/-- t is s with the zones v, HEAT-OFF placed in class B, and the outcomes of those owed that found no place. -/
def Pauses (v : Vector ZoneRec 10) (s t : State) : Prop := ∃ k l o, OffOnly o ∧
  t = { s with zones := v, serial := k, roof := { s.roof with classB := l }, owed := s.owed ++ o }

theorem Pauses.same {v : Vector ZoneRec 10} {s : State} : Pauses v s { s with zones := v } :=
  ⟨_, _, [], nofun, by rw [List.append_nil]⟩

theorem Pauses.trans {v w : Vector ZoneRec 10} {s t u : State} (h : Pauses v s t) (h' : Pauses w t u) : Pauses w s u := by
  obtain ⟨_, _, o, ho, rfl⟩ := h
  obtain ⟨_, _, o', ho', rfl⟩ := h'
  exact ⟨_, _, o ++ o', ho.append ho', by rw [List.append_assoc]⟩

theorem placeHeatOffUnlessMismatch_pauses (z : Zone) (s : State) : Pauses s.zones s (placeHeatOffUnlessMismatch z s) := by
  unfold placeHeatOffUnlessMismatch
  split
  · exact .same
  · split
    · exact .same
    · next n _ _ =>
      obtain ⟨k, l, o, own, e⟩ := placeB_eq n (c := .heatOff z) nofun s
      exact ⟨k, l, o, fun x hx => ⟨z, own x hx⟩, e⟩

/-- The turn of zone z while the gate closes. -/
def closeTurn (s : State) (z : Zone) : State := if s.zones[z].state = .heating then pauseZone z s else s

theorem closeTurn_pauses (s : State) (z : Zone) : Pauses (upd s.zones z pausedRecord) s (closeTurn s z) := by
  unfold closeTurn
  split
  case isTrue heats =>
    have paused : upd s.zones z pausedRecord = upd s.zones z fun r => { r with state := .paused } :=
      upd_congr (by simp only [pausedRecord, heats, if_true])
    rw [paused]
    exact Pauses.same.trans (placeHeatOffUnlessMismatch_pauses z (s.modZone z _))
  case isFalse off =>
    have still : upd s.zones z pausedRecord = s.zones := (upd_congr (g := id) (pausedRecord_off off)).trans (upd_id ..)
    rw [still]
    exact .same

theorem closeGate_pauses (s : State) : ∃ v : Vector ZoneRec 10, (∀ z : Zone, v[z] = pausedRecord s.zones[z]) ∧
    Pauses v { s with stagger := none } (closeGate s) := by
  have scan (l : List Zone) (t : State) :
      Pauses (l.foldl (fun v z => upd v z pausedRecord) t.zones) t (l.foldl closeTurn t) := by
    induction l generalizing t with
    | nil => exact .same
    | cons z l ih =>
      have turn := closeTurn_pauses t z
      refine turn.trans ?_
      have zones : (closeTurn t z).zones = upd t.zones z pausedRecord := by obtain ⟨_, _, _, _, e⟩ := turn; rw [e]
      have later := ih (closeTurn t z)
      rw [zones] at later
      exact later
  refine ⟨_, fun z => (foldl_paused (List.finRange 10) s.zones z).trans (if_pos (List.mem_finRange z)), ?_⟩
  obtain ⟨k, l, o, off, e⟩ := scan (List.finRange 10) s
  exact ⟨k, l, o, off, congrArg (fun t : State => { t with stagger := none }) e⟩

/-! ### The entry to OPENING -/

/-- The zones after a change that closes the gate where it was open (R88). -/
def ShutZones (s : State) (v : Vector ZoneRec 10) : Prop :=
  ∀ z : Zone, v[z] = if gateOpen s = true then pausedRecord s.zones[z] else s.zones[z]

theorem shutZones_get {s : State} {v : Vector ZoneRec 10} (h : ShutZones s v) (z : Zone) : v[z] = { s.zones[z] with
    state := if gateOpen s = true ∧ s.zones[z].state = .heating then .paused else s.zones[z].state } := by
  rw [h z]
  by_cases gate : gateOpen s = true <;> simp [gate, pausedRecord]

/-- What the gate reads (R88). -/
theorem gateOpen_congr {s t : State} (state : t.co.state = s.co.state) (active : t.co.active = s.co.active)
    (systems : t.systems = s.systems) (takeover : t.takeover = s.takeover) : gateOpen t = gateOpen s := by
  have entries : sysEntry? t = sysEntry? s := funext fun k => by simp only [sysEntry?, systems]
  have entry : activeEntry? t = activeEntry? s := by rw [activeEntry?, activeEntry?, active, entries]
  have allowed : allowance t = allowance s := by rw [allowance, allowance, entry]
  rw [Bool.eq_iff_iff]
  simp only [gateOpen, granted, decide_eq_true_eq, state, allowed, takeover]

/-- The controller's record on entry to OPENING from POWERED (R66, R67, R134). -/
def openingRecord (plan : Plan) (window : Nat) (r : Changeover) : Changeover :=
  { r with state := .opening, plan := plan, sustain := none, tripQuiet := none, phase := some (.openWindow, window) }

section
variable {s : State} (powered : s.co.state = .powered)
include powered

theorem setCo_opening_pauses : ∃ v, ShutZones s v ∧ Pauses v
    { s with co := { s.co with state := .opening, tripQuiet := none }, stagger := if gateOpen s = true then none else s.stagger }
    (setCo .opening s) := by
  have leaves : changeRecord .opening s.co = { s.co with state := .opening, tripQuiet := none } := by simp [changeRecord, powered]
  have shut : gateOpen (s.modCo (changeRecord .opening)) = false :=
    gateOpen_eq_false (by rw [State.modCo_co, leaves]; nofun)
  have change : setCo .opening s = gateChange (gateOpen s) (s.modCo (changeRecord .opening)) := by
    rw [setCo, if_neg (show ¬ endsRun .opening = true from nofun)]
  rw [change, ← leaves]
  cases was : gateOpen s with
  | false =>
    rw [gateChange_same shut]
    exact ⟨s.zones, fun z => by rw [was]; rfl, .same⟩
  | true =>
    have closes : gateChange true (s.modCo (changeRecord .opening)) = closeGate (s.modCo (changeRecord .opening)) := by
      simp only [gateChange, shut, Bool.not_false, Bool.and_self, if_true]
    obtain ⟨v, paused, pauses⟩ := closeGate_pauses (s.modCo (changeRecord .opening))
    rw [closes]
    exact ⟨v, fun z => by rw [paused, was]; rfl, pauses⟩

theorem enterOpening_pauses {b : Node} (hb : nodeOf? s .breaker = some b) (plan : Plan) : ∃ v, ShutZones s v ∧ Pauses v
    { s with
      co := openingRecord plan s.settings.openWindow s.co
      stagger := if gateOpen s = true then none else s.stagger
      roof := { s.roof with classA := s.roof.classA.set b (some .opn) } } (enterOpening plan s) := by
  obtain ⟨v, shut, k, l, o, off, e⟩ := setCo_opening_pauses powered
  refine ⟨v, shut, k, l, o, off, ?_⟩
  rw [enterOpening, e]
  simp only
  rw [breaker_opens (b := b) (by exact hb)]
  rfl

end

/-- The outcome of a HEAT-OFF that found no place is a notice (R96, R117). -/
theorem payOwed_off {s : State} (h : OffOnly s.owed) (n : Nat) : ∃ x o, payOwed n s = { s with train := x, owed := o } := by
  induction n generalizing s with
  | zero => exact ⟨_, _, rfl⟩
  | succ n ih =>
    cases owed : s.owed with
    | nil => exact ⟨_, _, payOwed_nil _ s owed⟩
    | cons x o =>
      rw [owed] at h
      obtain ⟨z, heatOff⟩ := h x (List.mem_cons_self ..)
      have pays : payOne s = queueNotice (.zoneFault z .offFailed s.zones[z].accum s.zones[z].owedPasses) { s with owed := o } := by
        simp only [payOne, owed, heatOff, deliverPart, reduceCtorEq, if_false]
      obtain ⟨x', o', e⟩ := ih (s := queueNotice _ { s with owed := o }) fun y hy => h y (List.mem_cons_of_mem x hy)
      simp only [payOwed, owed, List.isEmpty_cons, Bool.false_eq_true, if_false, pays]
      exact ⟨x', o', e⟩

theorem drain_off {s : State} (h : OffOnly s.owed) : ∃ x, drain s = { s with train := x, owed := [] } := by
  obtain ⟨x, o, e⟩ := payOwed_off h owedRounds
  exact ⟨x, by rw [drain, e]⟩

/-! ### The orders and the silence timer in POWERED -/

/-- What the entry to OPENING, a last change of the train link's record, and the outcomes owed come to. -/
theorem drain_opening {s : State} {b : Node} (powered : s.co.state = .powered) (hb : nodeOf? s .breaker = some b)
    (owed : s.owed = []) (plan : Plan) (f : Train → Train) : ∃ v k l x, ShutZones s v ∧
      drain ((enterOpening plan s).modTrain f) = { s with
        co := openingRecord plan s.settings.openWindow s.co
        zones := v
        stagger := if gateOpen s = true then none else s.stagger
        serial := k
        roof := { s.roof with classA := s.roof.classA.set b (some .opn), classB := l }
        train := x
        owed := [] } := by
  obtain ⟨v, shut, k, l, o, off, e⟩ := enterOpening_pauses powered hb plan
  have owes : OffOnly ((enterOpening plan s).modTrain f).owed := by
    rw [e]; simp only [State.modTrain_owed, owed, List.nil_append]; exact off
  obtain ⟨x, pays⟩ := drain_off owes
  exact ⟨v, k, l, x, shut, by rw [pays, e]; rfl⟩

/-- With no zone HEATING nothing is owed, and no queue but the breaker's slot changes. -/
theorem drain_opening_cold {s : State} {b : Node} (powered : s.co.state = .powered) (hb : nodeOf? s .breaker = some b)
    (owed : s.owed = []) (plan : Plan) (f : Train → Train) (cold : ∀ z : Zone, s.zones[z].state ≠ .heating) :
    drain ((enterOpening plan s).modTrain f) = { s with
      co := openingRecord plan s.settings.openWindow s.co
      stagger := if gateOpen s = true then none else s.stagger
      roof := { s.roof with classA := s.roof.classA.set b (some .opn) }
      train := f s.train } := by
  rw [enterOpening_eq powered cold hb]
  exact drain_nil _ owed

/-- A request that is decided, as its own rule answers it outside HELD, with the outcomes it owes. -/
theorem request_drains {s v : State} (h : Decides s) {decide : State → Reply} {r : Result} {d : List Word}
    (e : decide (trainFrameTaken s) = ⟨v, r, d⟩) (free : r ≠ .held) (q k : Byte) :
    react (manage q k decide) s = .next (follows s (drain (addResponse { seq := q, code := k, result := r, data := d } v))) := by
  rw [react, manage_decided h, e, respond, noteHeld, if_neg fun held => free held.1]
  rfl

theorem powerDown_powered {s : State} (h : s.co.state = .powered) :
    powerDown s = enterOpening .idle (s.modCo fun r => { r with ordered := none }) := by
  simp only [powerDown]
  generalize ordered : (s.modCo fun r => { r with ordered := none }) = t
  have here : t.co.state = .powered := by subst ordered; exact h
  simp only [h, here, reduceCtorEq, if_false]

theorem neutralAheadOrder_powered {s : State} (h : s.co.state = .powered) :
    neutralAheadOrder s = accept (enterOpening .neutral (s.modCo fun r => { r with neutralAnnounced := true })) [] := by
  simp only [neutralAheadOrder, h]

section
variable {s : State} {k : SysId} (h : s.co.state = .powered) (other : s.co.active ≠ some k)
include h other

theorem powerUpOrder_powered : powerUpOrder k s = accept (leaveFor k s) [] := by
  simp only [powerUpOrder, h, other, if_false]

theorem changeoverOrder_powered : changeoverOrder k s = accept (leaveFor k s) [] := by
  simp only [changeoverOrder, h, other, if_false]

end

theorem expireSilence_powered {s : State} (runs : s.train.silence ≠ none) (here : s.co.state = .powered) : expireSilence s =
    enterOpening .idle { s with
      co := { s.co with ordered := none }
      train := noteNotice (.trainSilence s.settings.silenceTime .powered) { s.train with silence := none, silent := true } } := by
  obtain ⟨left, hleft⟩ := Option.ne_none_iff_exists'.1 runs
  simp only [expireSilence, hleft]
  rw [powerDown_powered (by exact here), ← here]
  rfl

/-- One RESPONSE with result OK more. -/
def respondedOk (q c : Byte) (t : Train) : Train :=
  { t with responses := t.responses ++ [{ seq := q, code := c, result := .ok, data := [] }] }

/-- What the entry to OPENING from s with the record co and the train link's record T comes to, f being the last change of the
latter. -/
def opened (s : State) (plan : Plan) (co : Changeover) (T : Train) (f : Train → Train) : State :=
  drain ((enterOpening plan { s with co := co, train := T }).modTrain f)

section
variable {s : State} (powered : s.co.state = .powered)
include powered

theorem exec_silence_opens (runs : s.train.silence ≠ none) : exec .trainLinkSilenceExpiry s =
    .next (follows s (opened s .idle { s.co with ordered := none }
      (noteNotice (.trainSilence s.settings.silenceTime .powered) { s.train with silence := none, silent := true }) id)) := by
  have unchanged (t : State) : t.modTrain id = t := rfl
  rw [opened, unchanged, ← expireSilence_powered runs powered]
  rfl

variable (dec : Decides s) (free : granted s = false) (q : Byte) (rest : List Word)
include dec free

theorem exec_powerDown_opens : exec (.powerDown q rest) s =
    .next (follows s (opened s .idle { s.co with ordered := none } (heard s) (respondedOk q 17))) :=
  request_drains dec (decide := powerDownOrder)
    ((heldOr_free (by exact free)).trans (congrArg (accept · []) (powerDown_powered (by exact powered)))) nofun q 17

theorem exec_neutralAhead_opens : exec (.neutralAhead q rest) s =
    .next (follows s (opened s .neutral { s.co with neutralAnnounced := true } (heard s) (respondedOk q 19))) :=
  request_drains dec (decide := heldOr neutralAheadOrder)
    ((heldOr_free (by exact free)).trans (neutralAheadOrder_powered (by exact powered))) nofun q 19

variable {k : SysId} {w : Word} (named : w.toNat = number k) (known : sysEntry? s k ≠ none) (other : s.co.active ≠ some k)
include named known other

/-- POWER-UP and CHANGEOVER of another system (R54, R55). -/
theorem systemOrder_opens {order : SysId → State → Reply}
    (leaves : ∀ t, t.co.state = .powered → t.co.active ≠ some k → order k t = accept (leaveFor k t) []) (c : Byte) :
    react (manage q c (systemOrder order (w :: rest))) s =
      .next (follows s (opened s .neutral { s.co with ordered := some k } (heard s) (respondedOk q c))) := by
  have outside : (trainFrameTaken s).co.state ≠ .lockout := by rw [show (trainFrameTaken s).co.state = _ from powered]; nofun
  exact request_drains dec ((systemOrder_known order rest outside named known).trans
    ((heldOr_free (by exact free)).trans (leaves _ powered other))) nofun q c

end

/-- Settles O47: the four orders and the silence timer come to one entry to OPENING. -/
theorem ordersOpenTheBreakerInPowered : Obligations.OrdersOpenTheBreakerInPowered := by
  intro s q w rest k b cmd co plan train dec powered free hb forms
  have opens : ∃ T f, f T = train ∧ co.state = .powered ∧ co.active = s.co.active ∧
      exec cmd s = .next (follows s (opened s plan co T f)) := by
    obtain ⟨rfl, rfl, rfl, rfl⟩ | ⟨rfl, rfl, rfl, rfl⟩ | ⟨order, named, known, other, rfl, rfl⟩ |
      ⟨rfl, runs, rfl, rfl, rfl⟩ := forms
    · exact ⟨heard s, respondedOk q 17, rfl, powered, rfl, exec_powerDown_opens powered dec free q rest⟩
    · exact ⟨heard s, respondedOk q 19, rfl, powered, rfl, exec_neutralAhead_opens powered dec free q rest⟩
    · have orders {order : SysId → State → Reply} :=
        systemOrder_opens powered dec free q rest named known other (order := order)
      obtain ⟨rfl, rfl⟩ | ⟨rfl, rfl⟩ := order
      · exact ⟨heard s, respondedOk q 16, rfl, powered, rfl, orders (fun _ => powerUpOrder_powered) 16⟩
      · exact ⟨heard s, respondedOk q 18, rfl, powered, rfl, orders (fun _ => changeoverOrder_powered) 18⟩
    · exact ⟨_, id, rfl, powered, rfl, exec_silence_opens powered runs⟩
  obtain ⟨T, f, ends, here, active, e⟩ := opens
  rw [opened] at e
  generalize ht : ({ s with co := co, train := T } : State) = t at e
  have gate : gateOpen t = gateOpen s := by subst ht; exact gateOpen_congr (here.trans powered.symm) active rfl rfl
  have entered : t.co.state = .powered := by subst ht; exact here
  have breaker : nodeOf? t .breaker = some b := by subst ht; exact hb
  have owed : t.owed = [] := by subst ht; exact dec.owed
  obtain ⟨v, n, l, x, shut, goes⟩ := drain_opening entered breaker owed plan f
  have cold := drain_opening_cold entered breaker owed plan f
  generalize drain ((enterOpening plan t).modTrain f) = d at e goes cold
  rw [gate] at goes
  subst goes ht
  refine ⟨_, e, rfl, rfl, fun z => ?_, rfl, rfl, rfl, rfl, rfl, rfl, rfl, rfl, rfl, rfl, rfl, fun off => ?_⟩
  · exact (shutZones_get shut z).trans (by rw [gate])
  · have same := cold off
    have serial := congrArg State.serial same
    exact ⟨congrArg State.roof same, (congrArg State.train same).trans ends, serial⟩

end Sys2Proof.Machine

namespace Sys2Proof.Machine

/-! # Heat within the gate and the allowance (R88, R90)

One lemma per operation of the model says that it keeps `HeatersOk`. Outside POWERED no zone is HEATING, which is why the
controller may change the active system there. -/

/-! ## The load of the HEATING zones -/

/-- No zone is HEATING. -/
def Cold (s : State) : Prop := ∀ z : Zone, s.zones[z].state ≠ .heating

/-- The power that a zone draws (R90). -/
def ZoneRec.draw (r : ZoneRec) : Nat := if r.state = .heating then r.rated else 0

theorem heatingLoad_eq_sum (s : State) : heatingLoad s = ∑ z : Zone, s.zones[z].draw := (Fin.sum_univ_def _).symm

theorem heatingLoad_cold {s : State} (h : Cold s) : heatingLoad s = 0 := by
  rw [heatingLoad_eq_sum]
  exact Finset.sum_eq_zero fun z _ => if_neg (h z)

theorem heatingLoad_modZone (s : State) (z : Zone) (f : ZoneRec → ZoneRec) :
    heatingLoad (s.modZone z f) + s.zones[z].draw = heatingLoad s + (f s.zones[z]).draw := by
  have others : ∀ y ∈ Finset.univ.erase z, (s.modZone z f).zones[y].draw = s.zones[y].draw := fun y hy => by
    rw [State.modZone_zones, upd_other _ _ (Finset.ne_of_mem_erase hy).symm]
  rw [heatingLoad_eq_sum, heatingLoad_eq_sum, ← Finset.add_sum_erase _ _ (Finset.mem_univ z),
    ← Finset.add_sum_erase _ (fun y : Zone => s.zones[y].draw) (Finset.mem_univ z), Finset.sum_congr rfl others,
    State.modZone_zones, upd_self]
  omega

/-- A change of a zone's record that leaves the state and the rated power of the zone leaves the load. -/
theorem heatingLoad_modZone_same {s : State} {z : Zone} {f : ZoneRec → ZoneRec} (state : (f s.zones[z]).state = s.zones[z].state)
    (rated : (f s.zones[z]).rated = s.zones[z].rated) : heatingLoad (s.modZone z f) = heatingLoad s := by
  have load := heatingLoad_modZone s z f
  have draw : (f s.zones[z]).draw = s.zones[z].draw := by rw [ZoneRec.draw, ZoneRec.draw, state, rated]
  omega

/-! ## What the invariant reads -/

theorem heatersOk_of_cold {s : State} (h : Cold s) : HeatersOk s := fun ⟨z, hz⟩ => absurd hz (h z)

theorem HeatersOk.cold_of_shut {s : State} (h : HeatersOk s) (shut : gateOpen s = false) : Cold s := fun z hz => by
  have gate := (h ⟨z, hz⟩).1
  rw [shut] at gate; cases gate

/-- Outside POWERED no zone is HEATING (R88). -/
theorem HeatersOk.cold {s : State} (h : HeatersOk s) (off : s.co.state ≠ .powered) : Cold s :=
  h.cold_of_shut (gateOpen_eq_false off)

theorem allowance_congr {s t : State} (active : t.co.active = s.co.active) (systems : t.systems = s.systems) :
    allowance t = allowance s := by
  have entries : sysEntry? t = sysEntry? s := funext fun k => by simp only [sysEntry?, systems]
  rw [allowance, allowance, activeEntry?, activeEntry?, active, entries]

theorem heatersOk_congr {s t : State} (zones : t.zones = s.zones) (state : t.co.state = s.co.state)
    (active : t.co.active = s.co.active) (systems : t.systems = s.systems) (takeover : t.takeover.state = s.takeover.state) :
    HeatersOk t ↔ HeatersOk s := by
  have allowed := allowance_congr active systems
  have gate : gateOpen t = gateOpen s := by
    rw [Bool.eq_iff_iff]; simp only [gateOpen, granted, decide_eq_true_eq, state, allowed, takeover]
  have load : heatingLoad t = heatingLoad s := by rw [heatingLoad, heatingLoad, zones]
  rw [HeatersOk, HeatersOk, zones, gate, load, allowed]

theorem HeatOnly.gateOpen {s t : State} (h : HeatOnly s t) : gateOpen t = gateOpen s :=
  gateOpen_congr (by rw [h.co]) (by rw [h.co]) h.systems h.takeover

theorem HeatOnly.allowance {s t : State} (h : HeatOnly s t) : allowance t = allowance s :=
  allowance_congr (by rw [h.co]) h.systems

theorem HeatOnly.heatersOk {s t : State} (h : HeatOnly s t) (zones : t.zones = s.zones) : HeatersOk t ↔ HeatersOk s :=
  heatersOk_congr zones (by rw [h.co]) (by rw [h.co]) h.systems (by rw [h.takeover])

/-! ## Commands to contactors leave the zones -/

section
variable (s : State)

@[simp] theorem zones_placeB (n : Node) (c : BCmd) : (placeB n c s).zones = s.zones := by
  simp only [placeB]
  split
  · rfl
  · split
    · rfl
    · cases c <;> rfl

@[simp] theorem zones_placeHeatOn (z : Zone) : (placeHeatOn z s).zones = s.zones := by unfold placeHeatOn; split <;> simp

@[simp] theorem zones_placeHeatOff (z : Zone) : (placeHeatOff z s).zones = s.zones := by unfold placeHeatOff; split <;> simp

@[simp] theorem zones_placeHeatOffUnlessMismatch (z : Zone) : (placeHeatOffUnlessMismatch z s).zones = s.zones := by
  unfold placeHeatOffUnlessMismatch
  split
  · rfl
  · split <;> simp

@[simp] theorem zones_pauseZone (z : Zone) : (pauseZone z s).zones = upd s.zones z fun r => { r with state := .paused } := by
  simp [pauseZone]

end

/-! ## Changes of one zone -/

/-- A change of a zone's record that puts no heat on it. -/
theorem heatersOk_modZone {s : State} (h : HeatersOk s) (z : Zone) {f : ZoneRec → ZoneRec}
    (hf : (f s.zones[z]).state = .heating → s.zones[z].state = .heating ∧ (f s.zones[z]).rated = s.zones[z].rated) :
    HeatersOk (s.modZone z f) := by
  rintro ⟨y, hy⟩
  have heats : ∃ y : Zone, s.zones[y].state = .heating := by
    rw [State.modZone_zones, upd_get] at hy
    split at hy
    case isTrue e => exact ⟨y, (e ▸ hf (e ▸ hy)).1⟩
    case isFalse => exact ⟨y, hy⟩
  obtain ⟨gate, within⟩ := h heats
  have draw : (f s.zones[z]).draw ≤ s.zones[z].draw := by
    unfold ZoneRec.draw
    split
    case isTrue on => rw [if_pos (hf on).1, (hf on).2]
    case isFalse => exact Nat.zero_le _
  have load := heatingLoad_modZone s z f
  exact ⟨gate, show heatingLoad (s.modZone z f) ≤ allowance s by omega⟩

theorem canStart_iff (s : State) (z : Zone) :
    canStart s z = true ↔ fits s z = true ∧ nodePresent s z = true ∧ gateOpen s = true := by simp [canStart]

theorem fits_iff (s : State) (z : Zone) : fits s z = true ↔ heatingLoad s + s.zones[z].rated ≤ allowance s := by simp [fits]

/-- The record of a zone that becomes HEATING (R94). -/
def heatRecord (now serial : Nat) (r : ZoneRec) : ZoneRec :=
  { r with state := .heating, lastStart := some now, heatOnSerial := some serial }

@[simp] theorem zones_heat (z : Zone) (s : State) : (heat z s).zones = upd s.zones z (heatRecord s.now s.serial) := by
  simp only [heat, zones_placeHeatOn]; rfl

/-- A zone that fits becomes HEATING through an open gate (R90). -/
theorem heatersOk_heat {s : State} {z : Zone} (gate : gateOpen s = true) (room : fits s z = true) : HeatersOk (heat z s) := by
  intro
  have zones : (heat z s).zones = (s.modZone z (heatRecord s.now s.serial)).zones := zones_heat z s
  have started := HeatOnly.heat z s
  have load := heatingLoad_modZone s z (heatRecord s.now s.serial)
  have draw : (heatRecord s.now s.serial s.zones[z]).draw = s.zones[z].rated := if_pos rfl
  refine ⟨started.gateOpen.trans gate, ?_⟩
  rw [started.allowance, heatingLoad, zones, ← heatingLoad]
  have room := (fits_iff s z).1 room
  omega

theorem fits_modZone {s : State} {z y : Zone} {f : ZoneRec → ZoneRec} (state : (f s.zones[y]).state = s.zones[y].state)
    (rated : (f s.zones[y]).rated = s.zones[y].rated) : fits (s.modZone y f) z = fits s z := by
  have drawn : (s.modZone y f).zones[z].rated = s.zones[z].rated := by
    rw [State.modZone_zones, upd_get]
    split
    case isTrue e => rw [← e, rated]
    case isFalse => rfl
  rw [Bool.eq_iff_iff, fits_iff, fits_iff, heatingLoad_modZone_same state rated, drawn]
  rfl

theorem heatersOk_startZone {s : State} {z : Zone} (gate : gateOpen s = true) (room : fits s z = true) :
    HeatersOk (startZone z s) :=
  heatersOk_heat (s := s.modZone z _) gate ((fits_modZone rfl rfl).trans room)

theorem heatersOk_pauseZone {s : State} (h : HeatersOk s) (z : Zone) : HeatersOk (pauseZone z s) :=
  ((HeatOnly.heatOffUnlessMismatch z _).heatersOk (zones_placeHeatOffUnlessMismatch _ z)).2 (heatersOk_modZone h z nofun)

/-! ## Start decisions and the gate -/

theorem canStart_of_startable {but : Option Zone} {s : State} {z : Zone} (h : startable but s z = true) :
    gateOpen s = true ∧ fits s z = true := by
  have can : canStart s z = true := by
    simp only [startable, decide_eq_true_eq] at h
    exact h.1
  obtain ⟨room, _, gate⟩ := (canStart_iff s z).1 can
  exact ⟨gate, room⟩

theorem heatersOk_startFromQueue {s : State} (h : HeatersOk s) (but : Option Zone) : HeatersOk (startFromQueue but s) := by
  have starts {z : Zone} (can : startable but s z = true) : HeatersOk (startZone z s) :=
    heatersOk_startZone (canStart_of_startable can).1 (canStart_of_startable can).2
  unfold startFromQueue
  split
  · exact h
  · split
    case isTrue can => exact starts can
    case isFalse =>
      split
      · split
        case h_1 => exact h
        case h_2 z found => exact heatersOk_modZone (starts (List.find?_some found)) _ fun on => ⟨on, rfl⟩
      · exact h

theorem heatersOk_startDecisionBut {s : State} (h : HeatersOk s) (but : Option Zone) : HeatersOk (startDecisionBut but s) := by
  unfold startDecisionBut
  split
  · split
    case h_1 z found =>
      have can := canStart_of_startable (List.find?_some found)
      exact heatersOk_heat can.1 can.2
    case h_2 => exact heatersOk_startFromQueue h but
  · exact h

@[simp] theorem heatersOk_startDecision {s : State} (h : HeatersOk s) : HeatersOk (startDecision s) :=
  heatersOk_startDecisionBut h none

/-- A run over a list whose every turn keeps the heat within bounds. -/
theorem HeatersOk.foldl {α : Type} {f : State → α → State} (hf : ∀ s x, HeatersOk s → HeatersOk (f s x)) (l : List α) {s : State}
    (h : HeatersOk s) : HeatersOk (l.foldl f s) := by
  induction l generalizing s with
  | nil => exact h
  | cons x l ih => exact ih (hf s x h)

theorem heatersOk_resumeIfAble {s : State} (h : HeatersOk s) (z : Zone) : HeatersOk (resumeIfAble s z) := by
  unfold resumeIfAble
  split
  case isTrue can => exact heatersOk_heat ((canStart_iff s z).1 can).2.2 ((canStart_iff s z).1 can).1
  case isFalse => exact h

theorem heatersOk_openGate {s : State} (h : HeatersOk s) : HeatersOk (openGate s) := by
  have resumed (l : List Zone) : HeatersOk (l.foldl resumeIfAble s) := h.foldl (fun _ z hs => heatersOk_resumeIfAble hs z) l
  simp only [openGate]
  split
  · exact resumed _
  · exact heatersOk_startDecision (resumed _)

theorem closeGate_cold (s : State) : Cold (closeGate s) := by
  obtain ⟨v, paused, _, _, _, _, e⟩ := closeGate_pauses s
  intro z
  rw [e, paused z, pausedRecord]
  simp only
  split
  · nofun
  · assumption

/-- A change of what the gate reads, with the zones and the allowance as they were (R88, R89, R92). -/
theorem heatersOk_gateChange {s t : State} (h : HeatersOk s) (zones : t.zones = s.zones) (allowed : allowance t = allowance s) :
    HeatersOk (gateChange (gateOpen s) t) := by
  have cold (shut : gateOpen s = false) : Cold t := fun z => by rw [zones]; exact h.cold_of_shut shut z
  by_cases same : gateOpen t = gateOpen s
  · have load : heatingLoad t = heatingLoad s := by rw [heatingLoad, heatingLoad, zones]
    rw [gateChange_same same, HeatersOk, zones, same, load, allowed]
    exact h
  · cases was : gateOpen s with
    | false =>
      have opens : gateChange false t = openGate t := by rw [was, Bool.not_eq_false] at same; simp [gateChange, same]
      rw [opens]
      exact heatersOk_openGate (heatersOk_of_cold (cold was))
    | true =>
      have closes : gateChange true t = closeGate t := by rw [was, Bool.not_eq_true] at same; simp [gateChange, same]
      rw [closes]
      exact heatersOk_of_cold (closeGate_cold t)

/-! ## Shedding (R100) -/

/-- The HEATING zones other than z. -/
def heatingOthers (s : State) (z : Zone) : Finset Zone := {w | w ≠ z ∧ s.zones[w].state = .heating}

theorem mem_heatingOthers {s : State} {z w : Zone} : w ∈ heatingOthers s z ↔ w ≠ z ∧ s.zones[w].state = .heating := by
  simp [heatingOthers]

/-- One turn of the search for the zone that started last. -/
def newer (s : State) (best : Option Zone) (w : Zone) : Option Zone :=
  match best with
  | none => some w
  | some b => if startedAfter s w b then some w else some b

theorem newestHeating_eq (s : State) (z : Zone) : newestHeating s z =
    ((List.finRange 10).filter fun w => w ≠ z ∧ s.zones[w].state = .heating).foldl (newer s) none := rfl

theorem newer_eq_or (s : State) (best : Option Zone) (w : Zone) : newer s best w = some w ∨ newer s best w = best := by
  unfold newer
  split
  · exact .inl rfl
  · split
    · exact .inl rfl
    · exact .inr rfl

theorem newer_isSome (s : State) (best : Option Zone) (w : Zone) : (newer s best w).isSome := by
  unfold newer
  split
  · rfl
  · split <;> rfl

/-- The search gives the zone it begins with or one of the list. -/
theorem foldl_newer_mem {s : State} {l : List Zone} {best : Option Zone} {w : Zone} (found : l.foldl (newer s) best = some w) :
    best = some w ∨ w ∈ l := by
  induction l generalizing best with
  | nil => exact .inl found
  | cons x l ih =>
    obtain here | later := ih found
    · obtain e | e := newer_eq_or s best x
      · cases e.symm.trans here; exact .inr (List.mem_cons_self ..)
      · exact .inl (e.symm.trans here)
    · exact .inr (List.mem_cons_of_mem x later)

/-- The search finds a zone where it begins with one or goes through one. -/
theorem foldl_newer_isSome {s : State} {l : List Zone} {best : Option Zone} (some_ : best.isSome ∨ l ≠ []) :
    (l.foldl (newer s) best).isSome := by
  induction l generalizing best with
  | nil => simpa using some_
  | cons x l ih => exact ih (.inl (newer_isSome s best x))

theorem newestHeating_mem {s : State} {z w : Zone} (h : newestHeating s z = some w) : w ∈ heatingOthers s z := by
  obtain none_ | found := foldl_newer_mem ((newestHeating_eq s z).symm.trans h)
  · cases none_
  · simpa [mem_heatingOthers] using found

theorem newestHeating_none {s : State} {z : Zone} (h : newestHeating s z = none) : heatingOthers s z = ∅ := by
  by_contra some_
  obtain ⟨w, hw⟩ := Finset.nonempty_iff_ne_empty.2 some_
  have listed : w ∈ (List.finRange 10).filter fun w => w ≠ z ∧ s.zones[w].state = .heating := by
    simpa [mem_heatingOthers] using hw
  have found := foldl_newer_isSome (s := s) (best := none) (.inr (List.ne_nil_of_mem listed))
  rw [← newestHeating_eq, h] at found
  cases found

theorem heatingOthers_pauseZone (s : State) (z w : Zone) : heatingOthers (pauseZone w s) z = (heatingOthers s z).erase w := by
  ext y
  rw [Finset.mem_erase, mem_heatingOthers, mem_heatingOthers, zones_pauseZone, upd_get]
  by_cases e : w = y
  · simp [e]
  · simp [e, Ne.symm e]

theorem cold_of_noOthers {s : State} {z : Zone} (off : s.zones[z].state ≠ .heating) (none_ : heatingOthers s z = ∅) : Cold s :=
  fun y hy => by
    by_cases e : y = z
    · exact off (e ▸ hy)
    · have : y ∈ heatingOthers s z := mem_heatingOthers.2 ⟨e, hy⟩
      rw [none_] at this
      exact absurd this (Finset.notMem_empty y)

theorem fits_of_noOthers {s : State} {z : Zone} (off : s.zones[z].state ≠ .heating) (alone : s.zones[z].rated ≤ allowance s)
    (none_ : heatingOthers s z = ∅) : fits s z = true := by
  rw [fits_iff, heatingLoad_cold (cold_of_noOthers off none_)]; omega

theorem HeatOnly.shed (k : Nat) (z : Zone) (s : State) : HeatOnly s (shed k z s) := by
  induction k generalizing s with
  | zero => exact .refl s
  | succ k ih =>
    unfold Machine.shed
    split
    · exact .refl s
    · split
      · exact .refl s
      · exact (HeatOnly.pauseZone _ s).trans (ih _)

/-- Enough rounds of shedding make room for a zone that draws nothing yet and fits within the allowance alone. -/
theorem fits_shed {k : Nat} {z : Zone} {s : State} (off : s.zones[z].state ≠ .heating) (alone : s.zones[z].rated ≤ allowance s)
    (rounds : (heatingOthers s z).card ≤ k) : fits (shed k z s) z = true := by
  induction k generalizing s with
  | zero => exact fits_of_noOthers off alone (Finset.card_eq_zero.1 (Nat.le_zero.1 rounds))
  | succ k ih =>
    unfold shed
    split
    case isTrue fit => exact fit
    case isFalse =>
      split
      case h_1 last => exact fits_of_noOthers off alone (newestHeating_none last)
      case h_2 w newest =>
        have other := newestHeating_mem newest
        have same : (pauseZone w s).zones[z] = s.zones[z] := by
          rw [zones_pauseZone, upd_other _ _ (mem_heatingOthers.1 other).1]
        refine ih (by rwa [same]) (by rwa [same, (HeatOnly.pauseZone w s).allowance]) ?_
        rw [heatingOthers_pauseZone, Finset.card_erase_of_mem other]
        omega

theorem heatersOk_forceZone {s : State} {z : Zone} (h : HeatersOk s) (gate : gateOpen s = true)
    (alone : s.zones[z].rated ≤ allowance s) : HeatersOk (forceZone z s) := by
  generalize forced : ((s.modScrape fun r => { r with forcedZone := some z }).modZone z fun r => { r with forced := true }) = t
  have still : HeatersOk t ∧ gateOpen t = true ∧ t.zones[z].rated ≤ allowance t := by
    subst forced
    refine ⟨heatersOk_modZone (s := s.modScrape _) h z fun on => ⟨on, rfl⟩, gate, ?_⟩
    rw [State.modZone_zones, upd_self]; exact alone
  obtain ⟨ok, gate, alone⟩ := still
  have rounds (u : State) : (heatingOthers u z).card ≤ 10 := (Finset.card_le_univ _).trans_eq (Fintype.card_fin 10)
  have sheds {u : State} (gate : gateOpen u = true) (off : u.zones[z].state ≠ .heating) (alone : u.zones[z].rated ≤ allowance u) :
      gateOpen (shed 10 z u) = true ∧ fits (shed 10 z u) z = true :=
    ⟨(HeatOnly.shed 10 z u).gateOpen.trans gate, fits_shed off alone (rounds u)⟩
  simp only [forceZone, forced]
  split
  case h_1 => exact ok
  case h_2 paused =>
    have room := sheds gate (by rw [paused]; nofun) alone
    exact heatersOk_heat room.1 room.2
  case h_3 waiting =>
    have room := sheds gate (by rw [waiting]; nofun) alone
    exact heatersOk_startZone room.1 room.2
  case h_4 idle =>
    have owed : oweForcedPass t.now t.zones[z] = { t.zones[z] with owedPasses := 1, due := some t.now } := if_pos idle
    have room := sheds (u := t.modZone z (oweForcedPass t.now)) gate
      (by rw [State.modZone_zones, upd_self, owed]; simp only [idle]; nofun)
      (by rw [State.modZone_zones, upd_self, owed]; exact alone)
    exact heatersOk_startZone room.1 room.2

@[simp] theorem heatersOk_forceStrip {s : State} (h : HeatersOk s) (strip : Option Zone) : HeatersOk (forceStrip strip s) := by
  unfold forceStrip
  split
  · exact h
  · split
    case isTrue can =>
      simp only [forcible, decide_eq_true_eq] at can
      exact heatersOk_forceZone h can.2.1 can.2.2
    case isFalse => exact h

end Sys2Proof.Machine

namespace Sys2Proof.Machine

/-! ## Operations that the heat does not see -/

@[simp] theorem heatersOk_ite (p : Prop) [Decidable p] (s t : State) :
    HeatersOk (if p then s else t) ↔ if p then HeatersOk s else HeatersOk t := by split <;> rfl

/-- A run over a list whose every turn the heat does not see. -/
theorem heatersOk_foldl {α : Type} {f : State → α → State} (hf : ∀ s x, HeatersOk (f s x) ↔ HeatersOk s) (l : List α) (s : State) :
    HeatersOk (l.foldl f s) ↔ HeatersOk s := by
  induction l generalizing s with
  | nil => rfl
  | cons x l ih => exact (ih _).trans (hf s x)

/-- A state that differs in nothing the gate and the load read. -/
theorem heatersOk_unseen {s t : State} (zones : t.zones = s.zones) (co : t.co = s.co) (systems : t.systems = s.systems)
    (takeover : t.takeover = s.takeover) : HeatersOk t ↔ HeatersOk s :=
  heatersOk_congr zones (by rw [co]) (by rw [co]) systems (by rw [takeover])

section
variable (s : State)

@[simp] theorem heatersOk_modRecog (f : Recog → Recog) : HeatersOk (s.modRecog f) ↔ HeatersOk s := heatersOk_unseen rfl rfl rfl rfl
@[simp] theorem heatersOk_modPos (p : Pos) (f : PosRec → PosRec) : HeatersOk (s.modPos p f) ↔ HeatersOk s :=
  heatersOk_unseen rfl rfl rfl rfl
@[simp] theorem heatersOk_modChan (c : Chan) (f : Channel → Channel) : HeatersOk (s.modChan c f) ↔ HeatersOk s :=
  heatersOk_unseen rfl rfl rfl rfl
@[simp] theorem heatersOk_modScrape (f : Scrape → Scrape) : HeatersOk (s.modScrape f) ↔ HeatersOk s :=
  heatersOk_unseen rfl rfl rfl rfl
@[simp] theorem heatersOk_modNode (n : Node) (f : NodeRec → NodeRec) : HeatersOk (s.modNode n f) ↔ HeatersOk s :=
  heatersOk_unseen rfl rfl rfl rfl
@[simp] theorem heatersOk_modRoof (f : Arbiter → Arbiter) : HeatersOk (s.modRoof f) ↔ HeatersOk s :=
  heatersOk_unseen rfl rfl rfl rfl
@[simp] theorem heatersOk_modFwd (f : Forward → Forward) : HeatersOk (s.modFwd f) ↔ HeatersOk s :=
  heatersOk_unseen rfl rfl rfl rfl
@[simp] theorem heatersOk_modTrain (f : Train → Train) : HeatersOk (s.modTrain f) ↔ HeatersOk s :=
  heatersOk_unseen rfl rfl rfl rfl
@[simp] theorem heatersOk_modSettings (f : Settings → Settings) : HeatersOk (s.modSettings f) ↔ HeatersOk s :=
  heatersOk_unseen rfl rfl rfl rfl
@[simp] theorem heatersOk_stagger (x : Option Nat) : HeatersOk { s with stagger := x } ↔ HeatersOk s :=
  heatersOk_unseen rfl rfl rfl rfl
@[simp] theorem heatersOk_serial (k : Nat) : HeatersOk { s with serial := k } ↔ HeatersOk s := heatersOk_unseen rfl rfl rfl rfl
@[simp] theorem heatersOk_owed (l : List Owed) : HeatersOk { s with owed := l } ↔ HeatersOk s := heatersOk_unseen rfl rfl rfl rfl
@[simp] theorem heatersOk_announceRetry (x : Option Nat) : HeatersOk { s with announceRetry := x } ↔ HeatersOk s :=
  heatersOk_unseen rfl rfl rfl rfl

/-- A change of the controller's record that leaves its state and the active system. -/
@[simp] theorem heatersOk_modCo {f : Changeover → Changeover} (state : ∀ r, (f r).state = r.state)
    (active : ∀ r, (f r).active = r.active) : HeatersOk (s.modCo f) ↔ HeatersOk s :=
  heatersOk_congr rfl (state _) (active _) rfl rfl

/-! ### Notices, responses, placements -/

@[simp] theorem heatersOk_queueNotice (d : NoticeData) : HeatersOk (queueNotice d s) ↔ HeatersOk s := heatersOk_modTrain ..
@[simp] theorem heatersOk_addResponse (r : Response) : HeatersOk (addResponse r s) ↔ HeatersOk s := heatersOk_modTrain ..
@[simp] theorem heatersOk_placeA (n : Node) (f : AFrame) : HeatersOk (placeA n f s) ↔ HeatersOk s := heatersOk_modRoof ..
@[simp] theorem heatersOk_removeSustain (n : Node) : HeatersOk (removeSustain n s) ↔ HeatersOk s := heatersOk_modRoof ..
@[simp] theorem heatersOk_clearSlotA (n : Node) : HeatersOk (clearSlotA n s) ↔ HeatersOk s := heatersOk_modRoof ..
@[simp] theorem heatersOk_withdrawClose : HeatersOk (withdrawClose s) ↔ HeatersOk s := heatersOk_modRoof ..
@[simp] theorem heatersOk_withdrawRaise (n : Node) : HeatersOk (withdrawRaise n s) ↔ HeatersOk s := heatersOk_modRoof ..

@[simp] theorem heatersOk_placeB (n : Node) (c : BCmd) : HeatersOk (placeB n c s) ↔ HeatersOk s := by
  simp only [placeB]
  split
  · exact heatersOk_unseen rfl rfl rfl rfl
  · split
    · exact heatersOk_unseen rfl rfl rfl rfl
    · cases c <;> exact heatersOk_unseen rfl rfl rfl rfl

@[simp] theorem heatersOk_placeForRole (r : Role) (c : BCmd) : HeatersOk (placeForRole r c s) ↔ HeatersOk s := by
  unfold placeForRole; split
  · exact heatersOk_placeB ..
  · exact heatersOk_unseen rfl rfl rfl rfl

@[simp] theorem heatersOk_placeABreaker (f : AFrame) : HeatersOk (placeABreaker f s) ↔ HeatersOk s := by
  unfold placeABreaker; split <;> simp

@[simp] theorem heatersOk_placeAnnounce (n : Node) : HeatersOk (placeAnnounce n s) ↔ HeatersOk s := by
  simp [placeAnnounce]

@[simp] theorem heatersOk_announceAbsent : HeatersOk (announceAbsent s) ↔ HeatersOk s :=
  heatersOk_foldl (fun s n => by simp) _ s

@[simp] theorem heatersOk_placeHeatOff (z : Zone) : HeatersOk (placeHeatOff z s) ↔ HeatersOk s :=
  (HeatOnly.heatOff z s).heatersOk (zones_placeHeatOff s z)

@[simp] theorem heatersOk_placeHeatOffUnlessMismatch (z : Zone) : HeatersOk (placeHeatOffUnlessMismatch z s) ↔ HeatersOk s :=
  (HeatOnly.heatOffUnlessMismatch z s).heatersOk (zones_placeHeatOffUnlessMismatch s z)

@[simp] theorem heatersOk_endRun (why : EndReason) : HeatersOk (endRun why s) ↔ HeatersOk s := by
  simp only [endRun]
  split
  · rfl
  · split <;> simp

@[simp] theorem heatersOk_scrapeOnChannel (c : Chan) (old new : ChanState) :
    HeatersOk (scrapeOnChannel c old new s) ↔ HeatersOk s := by
  simp [scrapeOnChannel]

/-! ### Pantograph Control -/

@[simp] theorem heatersOk_placeAChan (c : Chan) (f : AFrame) : HeatersOk (placeAChan c f s) ↔ HeatersOk s := by
  unfold placeAChan; split <;> simp

@[simp] theorem heatersOk_removeSustainChan (c : Chan) : HeatersOk (removeSustainChan c s) ↔ HeatersOk s := by
  unfold removeSustainChan; split <;> simp

@[simp] theorem heatersOk_withdrawRaiseChan (c : Chan) : HeatersOk (withdrawRaiseChan c s) ↔ HeatersOk s := by
  unfold withdrawRaiseChan; split <;> simp

@[simp] theorem heatersOk_placeRaise (c : Chan) : HeatersOk (placeRaise c s) ↔ HeatersOk s := by
  unfold placeRaise; split <;> simp

@[simp] theorem heatersOk_faultNotice (c : Chan) (f : ChanFault) (st : ChanState) (cause : Option LowerCause) (k l : Nat) :
    HeatersOk (faultNotice c f st cause k l s) ↔ HeatersOk s := by
  unfold faultNotice; split <;> simp

@[simp] theorem heatersOk_lowerCore (c : Chan) (cause : LowerCause) : HeatersOk (lowerCore c cause s) ↔ HeatersOk s := by
  simp [lowerCore]

@[simp] theorem heatersOk_enterLowering (c : Chan) (cause : LowerCause) : HeatersOk (enterLowering c cause s) ↔ HeatersOk s := by
  simp [enterLowering]

@[simp] theorem heatersOk_faultLowering (c : Chan) (f : ChanFault) : HeatersOk (faultLowering c f s) ↔ HeatersOk s := by
  simp [faultLowering]

@[simp] theorem heatersOk_lowerRequest (c : Chan) (cause : LowerCause) : HeatersOk (lowerRequest c cause s) ↔ HeatersOk s := by
  simp [lowerRequest]

@[simp] theorem heatersOk_lowerAll (cause : LowerCause) : HeatersOk (lowerAll cause s) ↔ HeatersOk s :=
  heatersOk_foldl (fun s c => heatersOk_lowerRequest s c cause) _ s

@[simp] theorem heatersOk_raiseRequest (c : Chan) (d : Duty) : HeatersOk (raiseRequest c d s) ↔ HeatersOk s := by
  unfold raiseRequest; split <;> simp [enterRaising]

@[simp] theorem heatersOk_addLocks (c : Chan) : HeatersOk (addLocks c s) ↔ HeatersOk s := by simp [addLocks]

@[simp] theorem heatersOk_lockOnAdd (c : Chan) : HeatersOk (lockOnAdd c s) ↔ HeatersOk s := by simp [lockOnAdd]

@[simp] theorem heatersOk_dropToCooldown (c : Chan) : HeatersOk (dropToCooldown c s) ↔ HeatersOk s := by simp [dropToCooldown]

@[simp] theorem heatersOk_endLowering (c : Chan) : HeatersOk (endLowering c s) ↔ HeatersOk s := heatersOk_modChan ..

@[simp] theorem heatersOk_lowerTimeout (c : Chan) : HeatersOk (lowerTimeout c s) ↔ HeatersOk s := by simp [lowerTimeout]

@[simp] theorem heatersOk_raiseComplete (c : Chan) : HeatersOk (raiseComplete c s) ↔ HeatersOk s := by simp [raiseComplete]

@[simp] theorem heatersOk_resetCore (c : Chan) : HeatersOk (resetCore c s) ↔ HeatersOk s := by
  simp only [resetCore]; split <;> simp

/-! ### The Power Path Controller -/

@[simp] theorem heatersOk_startPhase (k : CoTimer) (ms : Nat) : HeatersOk (startPhase k ms s) ↔ HeatersOk s := by simp [startPhase]

@[simp] theorem heatersOk_stopPhase : HeatersOk (stopPhase s) ↔ HeatersOk s := by simp [stopPhase]

@[simp] theorem heatersOk_openRepOn : HeatersOk (openRepOn s) ↔ HeatersOk s := by simp [openRepOn]

@[simp] theorem heatersOk_breakerSustainOff : HeatersOk (breakerSustainOff s) ↔ HeatersOk s := by
  simp only [breakerSustainOff]; split <;> simp

@[simp] theorem heatersOk_closeDeparted : HeatersOk (closeDeparted s) ↔ HeatersOk s := by simp [closeDeparted]

@[simp] theorem heatersOk_schedulerLowers (was : State) : HeatersOk (schedulerLowers was s) ↔ HeatersOk s := by
  unfold schedulerLowers; split <;> simp

@[simp] theorem heatersOk_lowerCollector (cause : LowerCause) : HeatersOk (lowerCollector cause s) ↔ HeatersOk s := by
  unfold lowerCollector; split <;> simp

@[simp] theorem heatersOk_lowerScraper : HeatersOk (lowerScraper s) ↔ HeatersOk s := by
  unfold lowerScraper; split <;> simp

@[simp] theorem heatersOk_lowerMisfits (k : SysId) : HeatersOk (lowerMisfits k s) ↔ HeatersOk s :=
  heatersOk_foldl (fun s c => by simp) _ s

@[simp] theorem heatersOk_awaitSwitch : HeatersOk (awaitSwitch s) ↔ HeatersOk s := by
  simp only [awaitSwitch]; split <;> simp

@[simp] theorem heatersOk_admitClose : HeatersOk (admitClose s) ↔ HeatersOk s := by simp [admitClose]

@[simp] theorem heatersOk_dropQueuedClose : HeatersOk (dropQueuedClose s) ↔ HeatersOk s := by simp [dropQueuedClose]

@[simp] theorem heatersOk_countTrip (kind : TripKind) : HeatersOk (countTrip kind s) ↔ HeatersOk s := by simp [countTrip]

@[simp] theorem heatersOk_switchSilent : HeatersOk (switchSilent s) ↔ HeatersOk s := by simp [switchSilent]

/-! ### Frames, the exchange on the train link, and the picks -/

@[simp] theorem heatersOk_emptySlot (n : Node) : HeatersOk (emptySlot n s) ↔ HeatersOk s := heatersOk_modNode ..

@[simp] theorem heatersOk_offerMirror (m : MirrorCopy) : HeatersOk (offerMirror m s) ↔ HeatersOk s := by
  obtain ⟨f, k, e⟩ := offerMirror_eq m s
  rw [e]
  exact heatersOk_unseen rfl rfl rfl rfl

@[simp] theorem heatersOk_mirrorFrame (n : Node) (q : Byte) (f : RoofFrame) : HeatersOk (mirrorFrame n q f s) ↔ HeatersOk s := by
  unfold mirrorFrame; split <;> simp

@[simp] theorem heatersOk_discardCommand : HeatersOk (discardCommand s) ↔ HeatersOk s := heatersOk_modFwd ..

@[simp] theorem heatersOk_decideCommand (n : Node) (q c : Byte) (p : List Word) :
    HeatersOk (decideCommand n q c p s) ↔ HeatersOk s := by
  unfold decideCommand; split <;> simp

@[simp] theorem heatersOk_trainFrameTaken : HeatersOk (trainFrameTaken s) ↔ HeatersOk s := heatersOk_modTrain ..

@[simp] theorem heatersOk_discardRequest : HeatersOk (discardRequest s) ↔ HeatersOk s := heatersOk_modTrain ..

@[simp] theorem heatersOk_noteHeld (r : Result) : HeatersOk (noteHeld r s) ↔ HeatersOk s := by
  unfold noteHeld; split
  · exact heatersOk_congr rfl rfl rfl rfl rfl
  · rfl

@[simp] theorem heatersOk_nodeCommandFrame (n : Node) (q c : Byte) (p : List Word) :
    HeatersOk (nodeCommandFrame n q c p s) ↔ HeatersOk s := by
  simp [nodeCommandFrame]

@[simp] theorem heatersOk_tellDeparture (x : RoofItem) : HeatersOk (tellDeparture x s) ↔ HeatersOk s := by
  unfold tellDeparture
  split
  · split <;> simp
  all_goals rfl

@[simp] theorem heatersOk_roofPick : HeatersOk (roofPick s) ↔ HeatersOk s := by
  unfold roofPick
  split
  · rfl
  · split <;> simp [sendRoof]

@[simp] theorem heatersOk_trainPick : HeatersOk (trainPick s) ↔ HeatersOk s := by
  unfold trainPick
  split
  · rfl
  · split
    · simp
    · split
      · simp
      · split <;> simp

end

/-! ## Changes of the zones by a function of each record -/

/-- A map over the zones that leaves the state and the rated power of each. -/
theorem heatersOk_mapZones (s : State) {f : ZoneRec → ZoneRec} (state : ∀ r, (f r).state = r.state)
    (rated : ∀ r, (f r).rated = r.rated) : HeatersOk { s with zones := s.zones.map f } ↔ HeatersOk s := by
  have mapped (z : Zone) : (s.zones.map f)[z] = f s.zones[z] := Vector.getElem_map ..
  have load : heatingLoad { s with zones := s.zones.map f } = heatingLoad s := by
    simp only [heatingLoad, mapped, state, rated]
  simp only [HeatersOk, mapped, state, load]
  rfl

/-! ## The Heater Scheduler -/

section
variable {s : State} (h : HeatersOk s)
include h

/-- Outside POWERED any change of the controller's record but into POWERED finds no heat. -/
theorem heatersOk_modCo_off (off : s.co.state ≠ .powered) (f : Changeover → Changeover) : HeatersOk (s.modCo f) :=
  heatersOk_of_cold (h.cold off)

@[simp] theorem heatersOk_setCo (st : CoState) : HeatersOk (setCo st s) := by
  have gate : HeatersOk (gateChange (gateOpen s) (s.modCo (changeRecord st))) := heatersOk_gateChange h rfl rfl
  simp [setCo, gate]

omit h in
theorem owePass_heat (now : Nat) (r : ZoneRec) : (owePass now r).state = .heating →
    r.state = .heating ∧ (owePass now r).rated = r.rated := by
  simp only [owePass]
  split
  · nofun
  · split <;> exact fun on => ⟨on, rfl⟩

@[simp] theorem heatersOk_passDue (z : Zone) : HeatersOk (passDue z s) := by
  have owed : HeatersOk (s.modZone z (owePass s.now)) := heatersOk_modZone h z (owePass_heat s.now s.zones[z])
  have noted : HeatersOk (iceNotice z (s.modZone z (owePass s.now))) := by simp [iceNotice, owed]
  simp [passDue, noted]

omit h in
theorem endPass_off (r : ZoneRec) : (endPass r).state ≠ .heating := by
  simp only [endPass]; split <;> nofun

@[simp] theorem heatersOk_passComplete (z : Zone) : HeatersOk (passComplete z s) :=
  heatersOk_startDecision (heatersOk_modZone ((heatersOk_placeHeatOff s z).2 h) z fun on => absurd on (endPass_off _))

@[simp] theorem heatersOk_contactorFailure (z : Zone) (kind : ZoneFailure) : HeatersOk (contactorFailure z kind s) := by
  have waits : HeatersOk (s.modZone z fun r => { r with state := .waiting, forced := false }) := heatersOk_modZone h z nofun
  exact heatersOk_startDecisionBut (by simp [waits]) _

@[simp] theorem heatersOk_contactorReport (z : Zone) (p : ContactorPos) : HeatersOk (contactorReport z p s) := by
  have reported : HeatersOk (s.modZone z fun r => { r with lastReport := some p }) := heatersOk_modZone h z fun on => ⟨on, rfl⟩
  cases p <;> simp [contactorReport, reported]

@[simp] theorem heatersOk_contactorLost (n : Node) (kind : ZoneFailure) : HeatersOk (contactorLost n kind s) := by
  unfold contactorLost; split <;> simp [h]

@[simp] theorem heatersOk_contactorPresence (n : Node) : HeatersOk (contactorPresence n s) := by
  unfold contactorPresence; split <;> simp [h]

@[simp] theorem heatersOk_autoScrape : HeatersOk (autoScrape s) := by
  unfold autoScrape; split <;> simp [startRun, h]

/-! ## The Power Path Controller -/

@[simp] theorem heatersOk_enterIdle : HeatersOk (enterIdle s) := by
  have rests := heatersOk_modCo_off (heatersOk_setCo h .idle) (by rw [setCo_co]; nofun) idleRecord
  simp [enterIdle, rests]

@[simp] theorem heatersOk_enterCoasting : HeatersOk (enterCoasting s) := by
  have rests := heatersOk_modCo_off (heatersOk_setCo h .coasting) (by rw [setCo_co]; nofun) coastingRecord
  simp [enterCoasting, rests]

@[simp] theorem heatersOk_finishLowering : HeatersOk (finishLowering s) := by simp [finishLowering, h]

@[simp] theorem heatersOk_enterCoLowering (plan : Plan) : HeatersOk (enterCoLowering plan s) := by
  simp only [enterCoLowering]
  generalize lowering : schedulerLowers s _ = t
  have started : HeatersOk t := by rw [← lowering]; simp [h]
  simp [started]

omit h in
/-- The record on entry to LOCKOUT leaves the state and the active system (R78). -/
@[simp] theorem heatersOk_lockoutRecord (s : State) (cause : LockoutCause) : HeatersOk (s.modCo (lockoutRecord cause)) ↔ HeatersOk s :=
  heatersOk_modCo s (fun _ => rfl) (fun _ => rfl)

@[simp] theorem heatersOk_enterLockout (cause : LockoutCause) : HeatersOk (enterLockout cause s) := by simp [enterLockout, h]

@[simp] theorem heatersOk_enterOpening (plan : Plan) : HeatersOk (enterOpening plan s) := by simp [enterOpening, h]

@[simp] theorem heatersOk_neutralEntry : HeatersOk (neutralEntry s) := by simp [neutralEntry, h]

omit h in
theorem co_lowerMisfits (k : SysId) (s : State) : (lowerMisfits k s).co = s.co :=
  co_foldl (fun s c => by simp [lowerRequest]) _ s

theorem heatersOk_changeoverTo (off : s.co.state ≠ .powered) (k : SysId) : HeatersOk (changeoverTo k s) :=
  heatersOk_modCo_off ((heatersOk_lowerMisfits s k).2 h) (by rwa [co_lowerMisfits]) _

@[simp] theorem heatersOk_enterPath (n : Nat) (e : Entry) : HeatersOk (enterPath n e s) := by
  induction n generalizing e s with
  | zero => exact h
  | succ n ih =>
    cases e with
    | switching => simp [enterPath_switching_entry, ih, h]
    | closing => simp [enterPath_closing_entry, ih, h]
    | neutral =>
      have entered := heatersOk_neutralEntry h
      have off : (neutralEntry s).co.state ≠ .powered := by simp [neutralEntry, startPhase, setCo_co, changeRecord]
      rw [enterPath_neutral_entry]
      split
      case h_1 => exact entered
      case h_2 => exact ih entered _
      case h_3 k _ => exact ih (heatersOk_changeoverTo entered off k) _
      case h_4 => exact heatersOk_enterCoLowering entered _

@[simp] theorem heatersOk_enterSwitching : HeatersOk (enterSwitching s) := heatersOk_enterPath h 5 _

@[simp] theorem heatersOk_enterClosing : HeatersOk (enterClosing s) := heatersOk_enterPath h 5 _

@[simp] theorem heatersOk_enterNeutral : HeatersOk (enterNeutral s) := heatersOk_enterPath h 5 _

theorem heatersOk_evaluateNeutral (off : s.co.state ≠ .powered) : HeatersOk (evaluateNeutral s) := by
  unfold evaluateNeutral
  split
  case h_3 k _ => exact heatersOk_enterSwitching (heatersOk_changeoverTo h off k)
  all_goals simp [h]

theorem heatersOk_startWith (off : s.co.state ≠ .powered) (k : SysId) (c : Chan) : HeatersOk (startWith k c s) := by
  simp only [startWith]
  exact heatersOk_setCo ((heatersOk_raiseRequest ..).2 (heatersOk_modCo_off h off _)) _

theorem heatersOk_evaluateRecognizing (off : s.co.state ≠ .powered) (k : SysId) : HeatersOk (evaluateRecognizing k s) := by
  simp only [evaluateRecognizing]
  split
  · simp [h]
  · split
    · refine heatersOk_enterSwitching (heatersOk_modCo_off ?_ ?_ _)
      · simp [h]
      · rwa [co_queueNotice, co_lowerMisfits]
    · simp [h]

@[simp] theorem heatersOk_enterRecognizing : HeatersOk (enterRecognizing s) := by
  simp only [enterRecognizing]
  split
  case h_1 k _ => exact heatersOk_evaluateRecognizing (by simp [h]) (by simp [startPhase, setCo_co, changeRecord]) k
  case h_2 => simp [h]

@[simp] theorem heatersOk_noSubstitute : HeatersOk (noSubstitute s) := by simp [noSubstitute, h]

@[simp] theorem heatersOk_substituteRaise : HeatersOk (substituteRaise s) := by
  simp only [substituteRaise]
  split
  · exact heatersOk_noSubstitute h
  · split <;> simp [h]

@[simp] theorem heatersOk_collectorLost : HeatersOk (collectorLost s) := by
  unfold collectorLost; split <;> simp [h]

@[simp] theorem heatersOk_coOnChannel (c : Chan) (old new : ChanState) : HeatersOk (coOnChannel c old new s) := by
  simp [coOnChannel, h]

@[simp] theorem heatersOk_coOnResult : HeatersOk (coOnResult s) := by
  unfold coOnResult
  split
  case h_1 here =>
    split
    case h_1 k _ => exact heatersOk_evaluateRecognizing h (by rw [here]; nofun) k
    case h_2 => exact h
  case h_5 here =>
    refine heatersOk_evaluateNeutral ?_ ?_
    · simp [h]
    · split <;> exact here ▸ nofun
  all_goals simp [h]

@[simp] theorem heatersOk_afterTrip : HeatersOk (afterTrip s) := by simp [afterTrip, h]

@[simp] theorem heatersOk_enterPowered : HeatersOk (enterPowered s) := by simp [enterPowered, h]

@[simp] theorem heatersOk_carryOutPlan : HeatersOk (carryOutPlan s) := by
  simp only [carryOutPlan]; split <;> simp [h]

@[simp] theorem heatersOk_breakerReport (p : BreakerPos) : HeatersOk (breakerReport p s) := by
  have recorded : HeatersOk (s.modCo (breakerRecord p)) := (heatersOk_modCo s (fun _ => rfl) (fun _ => rfl)).2 h
  simp only [breakerReport]
  cases p with
  | opened =>
    dsimp only
    split
    · simp [recorded]
    · split <;> simp [recorded]
  | closed =>
    dsimp only
    split
    · simp [recorded]
    · split <;> simp [recorded]
  | travel => exact recorded

@[simp] theorem heatersOk_switchWhileSwitching (shows : Bool) : HeatersOk (switchWhileSwitching shows s) := by
  simp only [switchWhileSwitching]
  split
  · split
    · split <;> simp [h]
    · exact h
  · simp [h]
  · exact h

@[simp] theorem heatersOk_switchReport (p : Nat) : HeatersOk (switchReport p s) := by
  simp only [switchReport]; split <;> simp [h]

@[simp] theorem heatersOk_breakerSilent : HeatersOk (breakerSilent s) := by
  simp only [breakerSilent]; split <;> simp [h]

@[simp] theorem heatersOk_coNodeMismatch : HeatersOk (coNodeMismatch s) := by simp [coNodeMismatch, h]

@[simp] theorem heatersOk_powerDown : HeatersOk (powerDown s) := by
  simp only [powerDown]
  split
  · exact h
  · split
    case h_5 => split <;> simp [h]
    all_goals simp [h]

@[simp] theorem heatersOk_gradedCollector : HeatersOk (gradedCollector s) := by
  simp only [gradedCollector]
  split
  case h_2 | h_3 => split <;> simp [h]
  all_goals simp [h]

@[simp] theorem heatersOk_switchOutcome (k : Nat) (o : CmdOutcome) : HeatersOk (switchOutcome k o s) := by simp [switchOutcome, h]

@[simp] theorem heatersOk_closeOutcome (k : Nat) (o : CmdOutcome) : HeatersOk (closeOutcome k o s) := by simp [closeOutcome, h]

/-! ## What reaches a channel from outside -/

@[simp] theorem heatersOk_chanFault (c : Chan) (f : ChanFault) : HeatersOk (chanFault c f s) := by simp [chanFault, h]

@[simp] theorem heatersOk_lowerByOther (c : Chan) (cause : LowerCause) : HeatersOk (lowerByOther c cause s) := by
  simp [lowerByOther, h]

@[simp] theorem heatersOk_arcWatch (c : Chan) (contact : Bool) (arc : Nat) : HeatersOk (arcWatch c contact arc s) := by
  simp [arcWatch, h]

@[simp] theorem heatersOk_superviseContact (c : Chan) (contact : Bool) (arc : Nat) :
    HeatersOk (superviseContact c contact arc s) := by
  simp only [superviseContact]
  split
  · split <;> split <;> simp [h]
  · simp [h]

@[simp] theorem heatersOk_loweringEnds (c : Chan) : HeatersOk (loweringEnds c s) := by simp [loweringEnds, h]

@[simp] theorem heatersOk_addReport (c : Chan) (pos : PanPos) : HeatersOk (addReport c pos s) := by
  simp only [addReport]; split <;> simp [h]

@[simp] theorem heatersOk_plainReport (c : Chan) (pos : PanPos) (contact : Bool) (arc : Nat) :
    HeatersOk (plainReport c pos contact arc s) := by
  unfold plainReport; split <;> simp [h]

@[simp] theorem heatersOk_contactReport (p : Pos) (pos : PanPos) (contact add : Bool) (arc : Nat) :
    HeatersOk (contactReport p pos contact add arc s) := by
  simp only [contactReport]; split <;> simp [h]

@[simp] theorem heatersOk_raiseOutcome (c : Chan) (k : Nat) (o : CmdOutcome) : HeatersOk (raiseOutcome c k o s) := by
  simp [raiseOutcome, h]

@[simp] theorem heatersOk_pantographPresence (n : Node) : HeatersOk (pantographPresence n s) := by
  unfold pantographPresence
  split
  · exact h
  · split
    · split <;> simp [h]
    · exact h

/-! ## The Node Roster -/

@[simp] theorem heatersOk_deliverPart (c : BCmd) (k : Nat) (o : CmdOutcome) : HeatersOk (deliverPart c k o s) := by
  cases c with
  | heatOn z => cases o <;> simp [deliverPart, h]
  | _ => simp [deliverPart, h]

@[simp] theorem heatersOk_presenceHandOn (n : Node) : HeatersOk (presenceHandOn n s) := by
  unfold presenceHandOn
  split
  case h_3 | h_4 => split <;> simp [h]
  all_goals simp [h]

@[simp] theorem heatersOk_setPresence (n : Node) (p : Presence) : HeatersOk (setPresence n p s) := by simp [setPresence, h]

@[simp] theorem heatersOk_removeForMismatch (n : Node) : HeatersOk (removeForMismatch n s) := by
  simp only [removeForMismatch]
  rw [heatersOk_foldl fun s e => heatersOk_addResponse s _]
  exact HeatersOk.foldl (fun _ e hs => heatersOk_deliverPart hs _ _ _) _ ((heatersOk_modRoof ..).2 h)

@[simp] theorem heatersOk_enterMismatch (n : Node) : HeatersOk (enterMismatch n s) := by simp [enterMismatch, h]

@[simp] theorem heatersOk_becomePresent (n : Node) : HeatersOk (becomePresent n s) := by simp [becomePresent, h]

@[simp] theorem heatersOk_judge (n : Node) (fresh : Bool) : HeatersOk (judge n fresh s) := by
  unfold judge
  split
  · split <;> simp [h]
  · simp [h]

@[simp] theorem heatersOk_announceReport (n : Node) (role cls : Word) : HeatersOk (announceReport n role cls s) := by
  simp [announceReport, h]

@[simp] theorem heatersOk_rejudge (n : Node) : HeatersOk (rejudge n s) := by simp [rejudge, h]

@[simp] theorem heatersOk_rejudgeOld (old now : Option Node) : HeatersOk (rejudgeOld old now s) := by
  unfold rejudgeOld; split <;> simp [h]

@[simp] theorem heatersOk_nodeSilenced (n : Node) : HeatersOk (nodeSilenced n s) := by simp [nodeSilenced, h]

@[simp] theorem heatersOk_deliver (o : Outstanding) (out : CmdOutcome) (data : List Word) : HeatersOk (deliver o out data s) := by
  unfold deliver; split <;> simp [h]

@[simp] theorem heatersOk_ackReport (n : Node) (q : Byte) (p : List Word) : HeatersOk (ackReport n q p s) := by
  unfold ackReport; split <;> simp [h]

@[simp] theorem heatersOk_ackTimeout (n : Node) : HeatersOk (ackTimeout n s) := by
  unfold ackTimeout; split <;> simp [h]

@[simp] theorem heatersOk_restartAge (n : Node) : HeatersOk (restartAge n s) := by simp [restartAge, h]

@[simp] theorem heatersOk_deliverReport (n : Node) (r : Report) : HeatersOk (deliverReport n r s) := by
  cases r with
  | contact | contactor => simp only [deliverReport]; split <;> simp [h]
  | _ => simp [deliverReport, h]

/-! ## Line Measurement and Recognition -/

@[simp] theorem heatersOk_changeResult (w : LineResult) : HeatersOk (changeResult w s) := by simp [changeResult, h]

@[simp] theorem heatersOk_takeSample (w : Word) : HeatersOk (takeSample s w) := by
  simp [takeSample, completeWindow, confirmResult, h]

@[simp] theorem heatersOk_sampleDelivered (n : Node) (q : Byte) (p : List Word) : HeatersOk (sampleDelivered n q p s) := by
  unfold sampleDelivered
  split
  · exact HeatersOk.foldl (fun _ w hs => heatersOk_takeSample hs w) p ((heatersOk_modRecog ..).2 h)
  · exact h

@[simp] theorem heatersOk_sampleTimeoutExpired : HeatersOk (sampleTimeoutExpired s) := by
  simp only [sampleTimeoutExpired]
  split
  · split <;> simp [h]
  · exact h

@[simp] theorem heatersOk_deliverFrame (n : Node) (q : Byte) (f : RoofFrame) : HeatersOk (deliverFrame n q f s) := by
  cases f with
  | report code p holds => cases holds <;> simp [deliverFrame, h]
  | _ => simp [deliverFrame, h]

@[simp] theorem heatersOk_takeRoofFrame (n : Node) (q : Byte) (f : RoofFrame) : HeatersOk (takeRoofFrame n q f s) := by
  simp only [takeRoofFrame, unconfiguredFrame, mismatchFrame]
  split
  · split <;> simp [h]
  · split
    · split <;> simp [h]
    · simp [h]

/-! ## What follows every command -/

@[simp] theorem heatersOk_payOne : HeatersOk (payOne s) := by
  unfold payOne; split <;> simp [h]

@[simp] theorem heatersOk_payOwed (n : Nat) : HeatersOk (payOwed n s) := by
  induction n generalizing s with
  | zero => exact h
  | succ n ih => simp [payOwed, ih, h]

/-- A change of the takeover that is no grant (R88, R120). -/
@[simp] theorem heatersOk_modTakeover {f : Takeover → Takeover} (free : ∀ t, (f t).state = .granted → t.state = .granted) :
    HeatersOk (s.modTakeover f) := by
  intro heats
  obtain ⟨gate, within⟩ := h heats
  simp only [gateOpen, granted, decide_eq_true_eq] at gate
  refine ⟨?_, within⟩
  simp only [gateOpen, granted, decide_eq_true_eq]
  exact ⟨gate.1, gate.2.1, mt (free _) gate.2.2⟩

/-- A change of the takeover with which the gate is evaluated (R88, R120, R122). -/
theorem heatersOk_takeoverGate (f : Takeover → Takeover) : HeatersOk (gateChange (gateOpen s) (s.modTakeover f)) :=
  heatersOk_gateChange h rfl rfl

@[simp] theorem heatersOk_grant : HeatersOk (grant s) := heatersOk_takeoverGate h _

@[simp] theorem heatersOk_evaluateTakeover : HeatersOk (evaluateTakeover s) := by
  unfold evaluateTakeover; split <;> simp [h]

@[simp] theorem heatersOk_takeoverAfter (was : State) : HeatersOk (takeoverAfter was s) := by simp [takeoverAfter, h]

theorem heatersOk_settle (was : State) : HeatersOk (settle was s) := by simp [settle, drain, follows, h]

/-! ## Loads and clears -/

/-- Outside the freeze the controller is in IDLE or LOCKOUT (R13). -/
theorem HeatersOk.cold_of_thawed (thawed : ¬ frozen s = true) : Cold s := by
  refine h.cold fun powered => thawed ?_
  simp [frozen, powered]

theorem heatersOk_loadSystem (entry : List Word) : HeatersOk (loadSystem entry s).state := by
  unfold loadSystem
  split
  · split
    · exact h
    case isFalse thawed =>
      split
      · unfold storeSystem
        split
        · exact h
        · split
          · exact h
          · exact heatersOk_of_cold (show Cold s from h.cold_of_thawed thawed)
      · exact h
  · exact h

/-- A clear of a frozen slot table whose own change is harmless outside the freeze. -/
theorem heatersOk_clearSlot {n : Nat} (key : List Word) {clear : Fin n → State} (hc : ¬ frozen s = true → ∀ i, HeatersOk (clear i)) :
    HeatersOk (clearSlot key s clear).state := by
  unfold clearSlot
  split
  · split
    · exact h
    case isFalse thawed =>
      split
      · exact hc thawed _
      · exact h
  · exact h

theorem heatersOk_clearSystem (key : List Word) : HeatersOk (clearSystem key s).state :=
  heatersOk_clearSlot h key fun thawed _ => heatersOk_of_cold (show Cold s from h.cold_of_thawed thawed)

theorem heatersOk_loadWindow (entry : List Word) : HeatersOk (loadWindow entry s).state := by
  unfold loadWindow
  split
  · split
    · exact h
    · split
      · unfold storeWindow
        split
        · exact h
        · split <;> simp [h]
      · exact h
  · exact h

theorem heatersOk_clearWindow (key : List Word) : HeatersOk (clearWindow key s).state :=
  heatersOk_clearSlot h key fun _ _ => (heatersOk_modFwd ..).2 h

theorem heatersOk_loadInterlock (entry : List Word) : HeatersOk (loadInterlock entry s).state := by
  unfold loadInterlock
  split
  · split
    · exact h
    · split
      · unfold storeInterlock
        split <;> simp [h]
      · exact h
  · exact h

theorem heatersOk_clearInterlock (key : List Word) : HeatersOk (clearInterlock key s).state :=
  heatersOk_clearSlot h key fun _ _ => (heatersOk_modFwd ..).2 h

theorem heatersOk_loadPosition (entry : List Word) : HeatersOk (loadPosition entry s).state := by
  unfold loadPosition
  split
  · split
    · exact h
    · split
      · unfold admitPosition
        split
        · exact h
        · split
          · exact h
          · simp [storePosition, h]
      · exact h
  · exact h

theorem heatersOk_clearPosition (key : List Word) : HeatersOk (clearPosition key s).state :=
  heatersOk_clearSlot h key fun _ _ => heatersOk_rejudgeOld ((heatersOk_modPos ..).2 h) _ _

theorem heatersOk_loadNode (entry : List Word) : HeatersOk (loadNode entry s).state := by
  unfold loadNode
  split
  · split
    · exact h
    · split
      · unfold admitNode
        split
        · exact h
        · split
          · exact h
          · simp [storeNode, loadPresence, h]
      · exact h
  · exact h

theorem heatersOk_clearNode (key : List Word) : HeatersOk (clearNode key s).state := by
  unfold clearNode
  split
  · split
    · exact h
    · split
      · split <;> simp [h]
      · exact h
  · exact h

omit h in
theorem zoneBusy_iff (s : State) (z : Zone) :
    zoneBusy s z = true ↔ s.zones[z].state = .heating ∨ s.zones[z].state = .paused := by simp [zoneBusy]

theorem heatersOk_loadZone (entry : List Word) : HeatersOk (loadZone entry s).state := by
  unfold loadZone
  split
  · split
    · unfold admitZone
      split
      · exact h
      case isFalse idle =>
        split
        · exact h
        · split
          · exact h
          · exact heatersOk_startDecision
              (heatersOk_modZone h _ fun on => absurd ((zoneBusy_iff ..).2 (.inl on)) idle)
    · exact h
  · exact h

theorem heatersOk_clearZone (key : List Word) : HeatersOk (clearZone key s).state := by
  unfold clearZone
  split
  · split
    · split
      · exact h
      · have unassigned (z : Zone) : HeatersOk (s.modZone z unassignZone) := heatersOk_modZone h z nofun
        simp [dropZone, unassigned]
    · exact h
  · exact h

theorem heatersOk_setConfig (i : ConfigItem) (c : Option Chan) (x : Nat) : HeatersOk (setConfig i c x s) := by
  unfold setConfig
  split
  · simp [h]
  · exact (heatersOk_unseen rfl rfl rfl rfl).2 h
  · simp [h]

theorem heatersOk_loadConfig (entry : List Word) : HeatersOk (loadConfig entry s).state := by
  unfold loadConfig
  split
  · split
    · exact h
    · split
      · exact h
      · exact heatersOk_setConfig h _ _ _
  · exact h

theorem heatersOk_clearConfig (key : List Word) : HeatersOk (clearConfig key s).state := by
  unfold clearConfig
  split
  · split
    · exact h
    · exact heatersOk_setConfig h _ _ _
  · exact h

/-! ## The orders -/

theorem heatersOk_startFor (off : s.co.state ≠ .powered) (k : SysId) : HeatersOk (startFor k s).state := by
  unfold startFor; split
  · exact h
  · exact heatersOk_startWith h off _ _

theorem heatersOk_reorderInNeutral (off : s.co.state ≠ .powered) (k : SysId) : HeatersOk (reorderInNeutral k s) := by
  have ordered : HeatersOk (s.modCo fun r => { r with ordered := some k }) := heatersOk_modCo_off h off _
  simp only [reorderInNeutral]
  split
  · exact heatersOk_evaluateNeutral ordered off
  · exact ordered

theorem heatersOk_powerUpOrder (k : SysId) : HeatersOk (powerUpOrder k s).state := by
  unfold powerUpOrder
  split
  case h_1 here | h_2 here => exact heatersOk_startFor h (by rw [here]; nofun) k
  case h_3 here =>
    have orders := heatersOk_reorderInNeutral h (by rw [here]; nofun) k
    simp [reclose, orders, h]
  case h_4 => simp [leaveFor, h]
  case h_11 => exact h
  all_goals unfold whileBusy; split <;> exact h

theorem heatersOk_changeoverOrder (k : SysId) : HeatersOk (changeoverOrder k s).state := by
  unfold changeoverOrder
  split
  case h_1 here => exact heatersOk_startFor h (by rw [here]; nofun) k
  case h_2 => simp [h]
  case h_3 here => exact heatersOk_reorderInNeutral h (by rw [here]; nofun) k
  case h_4 => simp [leaveFor, h]
  case h_11 => exact h
  all_goals unfold whileBusy; split <;> exact h

theorem heatersOk_neutralAheadOrder : HeatersOk (neutralAheadOrder s).state := by
  unfold neutralAheadOrder; split <;> simp [h]

theorem heatersOk_sectionClearOrder : HeatersOk (sectionClearOrder s).state := by
  unfold sectionClearOrder
  split
  case h_1 here =>
    split
    · exact heatersOk_startFor h (by rw [here]; nofun) _
    · exact h
  all_goals exact h

theorem heatersOk_heldOr {order : State → Reply} (ho : HeatersOk (order s).state) : HeatersOk (heldOr order s).state := by
  unfold heldOr; split
  · exact h
  · exact ho

theorem heatersOk_systemOrder {order : SysId → State → Reply} (ho : ∀ k, HeatersOk (order k s).state) (p : List Word) :
    HeatersOk (systemOrder order p s).state := by
  unfold systemOrder
  split
  · exact h
  · split
    · exact h
    · split
      · exact h
      · exact heatersOk_heldOr h (ho _)

theorem heatersOk_clearLockoutOrder : HeatersOk (clearLockoutOrder s).state := by
  unfold clearLockoutOrder
  split
  · exact h
  · split <;> simp [h]

theorem heatersOk_loweringOrderReply (p : List Word) : HeatersOk (loweringOrderReply p s).state := by
  have others (l : List Chan) : HeatersOk (l.foldl (fun t c => lowerByOther c .graded t) s) :=
    h.foldl (fun _ c hs => heatersOk_lowerByOther hs c .graded) _
  unfold loweringOrderReply
  split
  · exact h
  · split <;> simp [gradedLowering, others, h]

theorem heatersOk_channelOrder {act : Chan → State → Reply} (ha : ∀ c, HeatersOk (act c s).state) (p : List Word) :
    HeatersOk (channelOrder act p s).state := by
  unfold channelOrder
  split
  · exact h
  · split
    · exact h
    · exact ha _

@[simp] theorem heatersOk_becomeDown (c : Chan) : HeatersOk (becomeDown c s) := by simp [becomeDown, h]

theorem heatersOk_channelResetOrder (c : Chan) : HeatersOk (channelResetOrder c s).state := by
  have core : HeatersOk (resetCore c s) := (heatersOk_resetCore ..).2 h
  have reset : HeatersOk (resetChannel c s) := by
    simp only [resetChannel]; split <;> simp [core]
  unfold channelResetOrder
  split
  · exact h
  · split
    · exact h
    · exact reset

theorem heatersOk_channelLowerOrder (c : Chan) : HeatersOk (channelLowerOrder c s).state := by
  unfold channelLowerOrder
  split
  · exact h
  · split
    · exact h
    · split <;> simp [h]

theorem heatersOk_remapOrder (p : List Word) : HeatersOk (remapOrder p s).state := by
  unfold remapOrder
  split
  · split
    · split
      · exact h
      · split
        · exact h
        · exact (heatersOk_unseen rfl rfl rfl rfl).2 h
    · exact h
  · exact h

theorem heatersOk_endRunAndLower (why : EndReason) : HeatersOk (endRunAndLower why s) := by
  unfold endRunAndLower; split <;> simp [h]

theorem heatersOk_setSeason (on : Bool) : HeatersOk (setSeason on s) := by
  have timers (r : ZoneRec) : (seasonTimer on r).state = r.state ∧ (seasonTimer on r).rated = r.rated := by
    rw [seasonTimer_eq]; exact ⟨rfl, rfl⟩
  have changed : HeatersOk { s with iceSeason := on, zones := s.zones.map (seasonTimer on) } :=
    (heatersOk_unseen (s := { s with zones := s.zones.map (seasonTimer on) }) rfl rfl rfl rfl).2
      ((heatersOk_mapZones s (fun r => (timers r).1) (fun r => (timers r).2)).2 h)
  simp only [setSeason]
  split
  · exact h
  · split
    · exact changed
    · exact heatersOk_endRunAndLower changed _

theorem heatersOk_iceSeasonOrder (p : List Word) : HeatersOk (iceSeasonOrder p s).state := by
  unfold iceSeasonOrder
  split
  · exact h
  · split
    · exact h
    · exact heatersOk_setSeason h _

theorem heatersOk_scrapeOrder : HeatersOk (scrapeOrder s).state := by
  unfold scrapeOrder
  split
  · exact h
  · split
    · exact h
    · split <;> simp [startRun, h]

theorem heatersOk_depotAccessOrder (p : List Word) : HeatersOk (depotAccessOrder p s).state := by
  unfold depotAccessOrder
  split
  · exact h
  · split <;> simp [h]

theorem heatersOk_noticeFilterOrder (p : List Word) : HeatersOk (noticeFilterOrder p s).state := by
  unfold noticeFilterOrder
  split
  · split
    · split <;> simp [h]
    · exact h
  · exact h

theorem heatersOk_partResetOrder : HeatersOk (partResetOrder s).state := by
  unfold partResetOrder; split <;> simp [h]

/-! ## Part reset, completions, pins and the clock -/

omit h in
/-- A part reset leaves no zone HEATING, whatever stood before (R104). -/
theorem heatersOk_partReset (s : State) : HeatersOk (partReset s) := by
  have cold (t : State) : HeatersOk (resetScheduler t) := by
    refine heatersOk_of_cold fun z => ?_
    have idle : (resetScheduler t).zones[z].state = .idle := by simp [resetScheduler, resetZoneRecord, restartTimer]
    rw [idle]; nofun
  have ended {t : State} (ht : HeatersOk t) : HeatersOk (endOfReset t) := by
    have retried : HeatersOk { announceAbsent t with announceRetry := some Config.announceRetryMs } :=
      (heatersOk_announceRetry ..).2 ((heatersOk_announceAbsent t).2 ht)
    simp only [endOfReset]
    split
    · exact heatersOk_evaluateTakeover retried
    · exact retried
  have roster {t : State} (ht : HeatersOk t) : HeatersOk (resetRoster t) := (heatersOk_unseen rfl rfl rfl rfl).2 ht
  exact ended (roster ((heatersOk_modFwd ..).2 (cold _)))

theorem heatersOk_completeTakeover : HeatersOk (completeTakeover s) := by simp [completeTakeover, h]

theorem heatersOk_roofComplete : HeatersOk (roofComplete s) := by
  unfold roofComplete
  split
  · exact h
  · exact heatersOk_completeTakeover (by simp [h])

theorem heatersOk_trainComplete : HeatersOk (trainComplete s) := by
  simp only [trainComplete]
  split
  · exact h
  · split
    · exact heatersOk_partReset _
    · simp [h]

theorem heatersOk_requestDeasserted : HeatersOk (requestDeasserted s) := by
  have off : HeatersOk (s.modTakeover fun t => { t with request := false }) := heatersOk_modTakeover h fun _ => id
  have released := heatersOk_takeoverGate off
  simp only [requestDeasserted]
  split <;> simp [releaseGrant, released, off]

theorem heatersOk_expireSilence : HeatersOk (expireSilence s) := by
  simp only [expireSilence]; split <;> simp [h]

theorem heatersOk_advance : HeatersOk (advance s) :=
  (heatersOk_congr (s := { s with zones := s.zones.map tickZone }) rfl rfl rfl rfl rfl).2
    ((heatersOk_mapZones s (f := tickZone) (fun _ => rfl) (fun _ => rfl)).2 h)

end

/-! ## Commands and steps -/

theorem heatersOk_react {act : State → State} {s t : State} (h : HeatersOk (act s)) (e : react act s = .next t) : HeatersOk t := by
  cases e; exact heatersOk_settle h s

/-- A management request whose own rule keeps the heat within bounds, with what follows it. -/
theorem heatersOk_request {decide : State → Reply} {q c : Byte} {s t : State} (h : HeatersOk s)
    (hd : ∀ {u}, HeatersOk u → HeatersOk (decide u).state) (e : react (manage q c decide) s = .next t) : HeatersOk t := by
  refine heatersOk_react ?_ e
  have decided := hd ((heatersOk_trainFrameTaken s).2 h)
  simp [manage, respond, decided, h]

theorem exec_heatersOk {c : Instr} {s t : State} (h : HeatersOk s) (e : exec c s = .next t) : HeatersOk t := by
  cases c with
  | powerOnReset => cases e; exact heatersOk_of_cold (heatersOk_reset.cold nofun)
  | roofFrameIgnored => cases e; exact h
  | trainFrameIgnored => cases e; simpa using h
  | roofFrameCheckFailure kind | trainFrameCheckFailure kind => exact heatersOk_react ((heatersOk_unseen rfl rfl rfl rfl).2 h) e
  | sample n q p => exact heatersOk_react (heatersOk_takeRoofFrame h n q _) e
  | contact n q p | breakerState n q p | switchState n q p | contactorState n q p | announce n q p =>
    exact heatersOk_react (heatersOk_takeRoofFrame h n q _) e
  | ack n q k p | unknownReport n q k p => exact heatersOk_react (heatersOk_takeRoofFrame h n q _) e
  | unknownRequest q k p => exact heatersOk_request h id e
  | readStatus q p => exact heatersOk_request h (fun h => (readRecord_isRead p _).state.symm ▸ h) e
  | readEntry q p => exact heatersOk_request h (fun h => (readTable_isRead p _).state.symm ▸ h) e
  | loadEntrySystem q l => exact heatersOk_request h (heatersOk_loadSystem · l) e
  | clearEntrySystem q l => exact heatersOk_request h (heatersOk_clearSystem · l) e
  | loadEntryPosition q l => exact heatersOk_request h (heatersOk_loadPosition · l) e
  | clearEntryPosition q l => exact heatersOk_request h (heatersOk_clearPosition · l) e
  | loadEntryZone q l => exact heatersOk_request h (heatersOk_loadZone · l) e
  | clearEntryZone q l => exact heatersOk_request h (heatersOk_clearZone · l) e
  | loadEntryNode q l => exact heatersOk_request h (heatersOk_loadNode · l) e
  | clearEntryNode q l => exact heatersOk_request h (heatersOk_clearNode · l) e
  | loadEntryWindow q l => exact heatersOk_request h (heatersOk_loadWindow · l) e
  | clearEntryWindow q l => exact heatersOk_request h (heatersOk_clearWindow · l) e
  | loadEntryInterlock q l => exact heatersOk_request h (heatersOk_loadInterlock · l) e
  | clearEntryInterlock q l => exact heatersOk_request h (heatersOk_clearInterlock · l) e
  | loadEntryConfig q l => exact heatersOk_request h (heatersOk_loadConfig · l) e
  | clearEntryConfig q l => exact heatersOk_request h (heatersOk_clearConfig · l) e
  | nodeCommand n q k p => exact heatersOk_react (by simpa using h) e
  | powerUp q p => exact heatersOk_request h (fun h => heatersOk_systemOrder h (heatersOk_powerUpOrder h) p) e
  | changeover q p => exact heatersOk_request h (fun h => heatersOk_systemOrder h (heatersOk_changeoverOrder h) p) e
  | powerDown q p => exact heatersOk_request h (fun h => heatersOk_heldOr h (heatersOk_powerDown h)) e
  | neutralAhead q p => exact heatersOk_request h (fun h => heatersOk_heldOr h (heatersOk_neutralAheadOrder h)) e
  | sectionClear q p => exact heatersOk_request h (fun h => heatersOk_heldOr h (heatersOk_sectionClearOrder h)) e
  | clearLockout q p => exact heatersOk_request h heatersOk_clearLockoutOrder e
  | loweringOrder q p => exact heatersOk_request h (heatersOk_loweringOrderReply · p) e
  | channelReset q p => exact heatersOk_request h (fun h => heatersOk_channelOrder h (heatersOk_channelResetOrder h) p) e
  | channelLower q p => exact heatersOk_request h (fun h => heatersOk_channelOrder h (heatersOk_channelLowerOrder h) p) e
  | remap q p => exact heatersOk_request h (heatersOk_remapOrder · p) e
  | iceSeason q p => exact heatersOk_request h (heatersOk_iceSeasonOrder · p) e
  | scrape q p => exact heatersOk_request h heatersOk_scrapeOrder e
  | depotAccess q p => exact heatersOk_request h (heatersOk_depotAccessOrder · p) e
  | noticeFilter q p => exact heatersOk_request h (heatersOk_noticeFilterOrder · p) e
  | partReset q p => exact heatersOk_request h heatersOk_partResetOrder e
  | takeoverRequestAsserted => exact heatersOk_react (heatersOk_modTakeover h fun _ => id) e
  | takeoverRequestDeasserted => exact heatersOk_react (heatersOk_requestDeasserted h) e
  | roofTransmissionComplete => exact heatersOk_react (heatersOk_roofComplete h) e
  | trainTransmissionComplete => exact heatersOk_react (heatersOk_trainComplete h) e
  | sampleTimeout => exact heatersOk_react (by simp [expireSample, h]) e
  | raiseWindowExpiry c => exact heatersOk_react (by simp [expireRaiseWindow, h]) e
  | lowerWindowExpiry c => exact heatersOk_react (by simp [expireLowerWindow, lowerWindowExpired, h]) e
  | lowerRepetition c => exact heatersOk_react (by simp [expireLowerRep, h]) e
  | cooldownExpiry c => exact heatersOk_react (by simp [expireCooldown, h]) e
  | channelSustainTimerExpiry c => exact heatersOk_react (by simp [expireChanSustain, h]) e
  | breakerSustainTimerExpiry => exact heatersOk_react (by simp [expireBreakerSustain, h]) e
  | openRepetition => exact heatersOk_react (by simp [expireOpenRep, h]) e
  | recognitionDeadlineExpiry => exact heatersOk_react (by simp [expireRecognition, h]) e
  | switchWindowExpiry => exact heatersOk_react (by simp [expireSwitchWindow, h]) e
  | settleIntervalExpiry => exact heatersOk_react (by simp [expireSettle, h]) e
  | closeWindowExpiry => exact heatersOk_react (by simp [expireCloseWindow, h]) e
  | openWindowExpiry => exact heatersOk_react (by simp [expireOpenWindow, h]) e
  | neutralDeadlineExpiry => exact heatersOk_react (by simp [expireNeutral, h]) e
  | tripQuietTimerExpiry => exact heatersOk_react (by simp [expireTripQuiet, h]) e
  | passTimerExpiry z => exact heatersOk_react (by simp [expirePassTimer, h]) e
  | staggerTimerExpiry => exact heatersOk_react (by simp [expireStagger, h]) e
  | passCompletion z => exact heatersOk_react (by simp [expirePass, h]) e
  | scrapeTimerExpiry => exact heatersOk_react (by simp [expireScrape, heatersOk_endRunAndLower h, h]) e
  | nodeSilence n => exact heatersOk_react (heatersOk_nodeSilenced h n) e
  | ackDeadlineExpiry n => exact heatersOk_react (heatersOk_ackTimeout h n) e
  | announceRetryTimerExpiry => exact heatersOk_react (by simp [expireAnnounce, h]) e
  | trainLinkSilenceExpiry => exact heatersOk_react (heatersOk_expireSilence h) e

/-- Settles O9: a zone becomes HEATING only where it fits, the gate is evaluated with every change of what it reads, and whatever
else lowers the allowance does so outside POWERED, where no zone is HEATING. -/
theorem heatersStayWithinTheAllowance : Obligations.HeatersStayWithinTheAllowance := by
  intro s t h e
  unfold step at e
  split at e
  case h_1 =>
    unfold idle at e
    split at e
    · cases e; exact heatersOk_advance h
    · exact exec_heatersOk h e
  case h_2 c rest _ => exact exec_heatersOk (s := { s with pending := rest }) ((heatersOk_unseen rfl rfl rfl rfl).2 h) e

end Sys2Proof.Machine

namespace Sys2Proof.Machine

/-! # Ice clearing: reports, loads and clears, and the timers of the zones -/

/-! ## Commands queued for a contactor (R84, R94, R95, R126) -/

/-- The state s with the class B queue l after one more placement. -/
def placedB (s : State) (l : List BEntry) : State := { s with serial := s.serial + 1, roof := { s.roof with classB := l } }

section
variable {s : State} {n : Node} {z : Zone} {l : List BEntry}

/-- A placement that finds its place, of anything but a RAISE. -/
theorem placeB_placed {c : BCmd} (noRaise : ∀ ch, c ≠ .raise ch) (fits : s.nodes[n].presence ≠ .mismatch)
    (hl : insertB ⟨n, c, s.serial⟩ s.roof.classB = some l) : placeB n c s = placedB s l := by
  simp only [placeB, fits, if_false, hl]
  cases c with
  | raise ch => exact absurd rfl (noRaise ch)
  | _ => rfl

theorem placeHeatOff_placed (node : s.zones[z].node = some n) (fits : s.nodes[n].presence ≠ .mismatch)
    (hl : insertB ⟨n, .heatOff z, s.serial⟩ s.roof.classB = some l) : placeHeatOff z s = placedB s l := by
  simp only [placeHeatOff, node]
  exact placeB_placed nofun fits hl

theorem placeHeatOn_placed (node : s.zones[z].node = some n) (fits : s.nodes[n].presence ≠ .mismatch)
    (hl : insertB ⟨n, .heatOn z, s.serial⟩ s.roof.classB = some l) : placeHeatOn z s = placedB s l := by
  simp only [placeHeatOn, node]
  exact placeB_placed nofun fits hl

end

/-! ## CONTACTOR-STATE reports (R84) -/

theorem zoneOfNode?_node {s : State} {n : Node} {z : Zone} (h : zoneOfNode? s n = some z) : s.zones[z].node = some n := by
  have found : (List.finRange 10).find? (fun y : Zone => decide (s.zones[y].node = some n)) = some z := h
  simpa only [decide_eq_true_eq] using List.find?_some found

/-- The state with the last report of zone z recorded. -/
def contactorSeen (s : State) (z : Zone) (b : ContactorPos) : State := s.modZone z fun r => { r with lastReport := some b }

/-- A CONTACTOR-STATE report of the node of zone z, by its effect on the zone. -/
theorem exec_contactor {s v : State} {n : Node} {z : Zone} {b : ContactorPos} {w : Word} (h : Taken s n)
    (hz : zoneOfNode? s n = some z) (hw : contactorFields? w = some (.contactor b)) (e : contactorReport z b (heardNode s n) = v)
    (ho : v.owed = []) (q : Byte) (rest : List Word) :
    exec (.contactorState n q (w :: rest)) s = .next (follows s (offerMirror ⟨n, .report, q, 4, w :: rest⟩ v)) := by
  refine react_eq_of ?_ ((offerMirror_owed ..).trans ho)
  have holds : report? 4 (w :: rest) = some (.contactor b) := hw
  have zone : zoneOfNode? { s with nodes := upd s.nodes n heardFrom } n = some z := hz
  rw [takeReport_taken h holds, deliverReport]
  simp only [zone]
  exact congrArg _ e

theorem contactorSeen_state (s : State) (z : Zone) (b : ContactorPos) :
    (contactorSeen s z b).zones[z].state = s.zones[z].state := by
  rw [contactorSeen, State.modZone_zones, upd_self]

theorem contactorSeen_node (s : State) (z : Zone) (b : ContactorPos) : (contactorSeen s z b).zones[z].node = s.zones[z].node := by
  rw [contactorSeen, State.modZone_zones, upd_self]

/-- OFF, ON while HEATING, and FAULT while not HEATING. -/
theorem contactorReport_recorded {s : State} {z : Zone} {b : ContactorPos}
    (h : b = .off ∨ (b = .on ∧ s.zones[z].state = .heating) ∨ (b = .fault ∧ s.zones[z].state ≠ .heating)) :
    contactorReport z b s = contactorSeen s z b := by
  obtain rfl | ⟨rfl, heats⟩ | ⟨rfl, off⟩ := h
  · rfl
  · exact if_pos ((contactorSeen_state s z .on).trans heats)
  · exact if_neg (mt (contactorSeen_state s z .fault).symm.trans off)

/-- ON while not HEATING: the contactor is told to open. -/
theorem contactorReport_on {s : State} {z : Zone} (off : s.zones[z].state ≠ .heating) :
    contactorReport z .on s = placeHeatOff z (contactorSeen s z .on) :=
  if_neg (mt (contactorSeen_state s z .on).symm.trans off)

/-- Settles O30: the report is recorded, and only ON while not HEATING has something to queue. -/
theorem contactorReportIsTaken : Obligations.ContactorReportIsTaken := by
  intro s n q w rest z b l taken _ zone fields
  refine ⟨fun quiet => ?_, fun on off hl => ?_⟩
  · exact exec_contactor taken zone fields (contactorReport_recorded (s := heardNode s n) quiet) taken.owed q rest
  · subst on
    have node : (contactorSeen (heardNode s n) z .on).zones[z].node = some n :=
      (contactorSeen_node ..).trans (zoneOfNode?_node zone)
    have fits : (heardNode s n).nodes[n].presence ≠ .mismatch := by
      rw [heardNode, upd_self]; exact heardFrom_presence_ne taken.noMismatch
    exact exec_contactor taken zone fields
      ((contactorReport_on (s := heardNode s n) off).trans (placeHeatOff_placed node fits hl)) taken.owed q rest

/-! ## Loads and clears of a zone (R83, R85) -/

/-- No start decision is made with the gate closed or the stagger timer running (R91). -/
theorem startDecision_none {s : State} (h : gateOpen s = false ∨ s.stagger ≠ none) : startDecision s = s := by
  refine if_neg fun both => ?_
  obtain shut | runs := h
  · rw [shut] at both; cases both.1
  · exact runs both.2

section
variable {s : State} {z : Zone} {n : Node}

/-- The search of the other zones for a node (R83). -/
theorem otherZone_iff : ((List.finRange 10).any fun y => y ≠ z ∧ s.zones[y].node = some n) = true ↔
    ∃ y : Zone, y ≠ z ∧ s.zones[y].node = some n := by
  simp only [List.any_eq_true, List.mem_finRange, true_and, decide_eq_true_eq]

section
variable (kw dur gap : Nat) (season : Bool)

theorem admitZone_busy (busy : zoneBusy s z = true) : admitZone z n kw dur gap season s = refuse s .busy := if_pos busy

variable (idle : ¬ zoneBusy s z = true)
include idle

theorem admitZone_wrongRole (role : s.nodes[n].role ≠ .heaterContactor) :
    admitZone z n kw dur gap season s = refuse s .badEntry := by
  rw [admitZone, if_neg idle, if_pos role]

variable (role : s.nodes[n].role = .heaterContactor)
include role

theorem admitZone_duplicate (other : ∃ y : Zone, y ≠ z ∧ s.zones[y].node = some n) :
    admitZone z n kw dur gap season s = refuse s .duplicate := by
  rw [admitZone, if_neg idle, if_neg (not_not.2 role), if_pos (otherZone_iff.2 other)]

theorem admitZone_ok (free : ¬ ∃ y : Zone, y ≠ z ∧ s.zones[y].node = some n) {t : State}
    (stored : storeZone z n (clamp 1 60 kw) (clamp 10 600 dur) (clamp 60 3600 gap) season s = t) :
    admitZone z n kw dur gap season s = accept t (ZoneRec.words z t.zones[z]) := by
  subst stored
  rw [admitZone, if_neg idle, if_neg (not_not.2 role), if_neg (mt otherZone_iff.1 free)]

end

/-- A zone's record after a load (R83, R85). -/
def loadedZone (n : Node) (kw dur gap : Nat) (season ice : Bool) (r : ZoneRec) : ZoneRec :=
  { r with
    node := some n, rated := kw, duration := dur, interval := gap, seasonOnly := season
    lastReport := if r.node = some n then r.lastReport else none
    accum := if r.state = .waiting then min r.accum (dur * 1000) else r.accum
    passTimer := if season = false ∨ ice = true then some (gap * 1000) else none }

theorem restartTimer_configureZone (n : Node) (kw dur gap : Nat) (season ice : Bool) (r : ZoneRec) :
    restartTimer ice (configureZone n kw dur gap season r) = loadedZone n kw dur gap season ice r := by
  have runs : timerRuns ice (configureZone n kw dur gap season r) = true ↔ season = false ∨ ice = true := by
    simp [timerRuns, configureZone]
  simp only [restartTimer, runs]
  rfl

theorem storeZone_shut (shut : gateOpen s = false) (kw dur gap : Nat) (season : Bool) :
    storeZone z n kw dur gap season s = s.modZone z (loadedZone n kw dur gap season s.iceSeason) := by
  simp only [storeZone, restartTimer_configureZone]
  exact startDecision_none (.inl shut)

theorem dropZone_shut (shut : gateOpen s = false) : dropZone z s = s.modZone z unassignZone := by
  have still : startDecision (s.modZone z unassignZone) = s.modZone z unassignZone := startDecision_none (.inl shut)
  simp only [dropZone, still, ite_self]

/-- The words of a zone entry are those of the load that made it, but for the clamping (11.4). -/
theorem zoneWords_eq {nw : Word} (hn : nw.toNat = number n) {r : ZoneRec} (node : r.node = some n) : ZoneRec.words z r =
    [word (number z), nw, word r.rated, word r.duration, word r.interval, if r.seasonOnly then 1 else 0] := by
  have address : num r.node = nw := by rw [node]; exact word_number (by omega) hn
  rw [ZoneRec.words, address]
  rfl

end

/-- Settles O42: a load with fields in range comes to `admitZone`, and with the gate closed no start decision follows. -/
theorem zoneLoadAndClear : Obligations.ZoneLoadAndClear := by
  intro s q z zw rest h zone busy
  have zone_at : numbered? 10 zw.toNat = some z := zone ▸ numbered?_number z
  have busy_iff : zoneBusy (trainFrameTaken s) z = true ↔ busy := zoneBusy_iff (trainFrameTaken s) z
  refine ⟨fun n nw rated duration interval season node => ?_, fun is => ?_, fun idle shut => ?_⟩
  · intro load kw dur gap other
    have admits : loadZone (zw :: nw :: rated :: duration :: interval :: (if season then 1 else 0) :: rest) (trainFrameTaken s) =
        admitZone z n rated.toNat duration.toNat interval.toNat season (trainFrameTaken s) := by
      simp only [loadZone, zone_at, node, numbered?_number, onOff?_eq]
    refine ⟨fun is => ?_, fun idle role => ?_, fun idle role taken => ?_, fun idle role free shut => ?_⟩
    · exact request_refused h (admits.trans (admitZone_busy _ _ _ _ (busy_iff.2 is))) nofun q 2
    · exact request_refused h (admits.trans (admitZone_wrongRole _ _ _ _ (mt busy_iff.1 idle) role)) nofun q 2
    · exact request_refused h (admits.trans (admitZone_duplicate _ _ _ _ (mt busy_iff.1 idle) role taken)) nofun q 2
    · have stored := admits.trans (admitZone_ok _ _ _ _ (mt busy_iff.1 idle) role free
        (storeZone_shut (s := trainFrameTaken s) (by exact shut) kw dur gap season))
      rw [State.modZone_zones, upd_self, zoneWords_eq node rfl] at stored
      exact request_answered h stored nofun h.owed q 2
  · have refuses : clearZone (zw :: rest) (trainFrameTaken s) = refuse (trainFrameTaken s) .busy := by
      simp only [clearZone, zone_at, busy_iff.2 is, if_true]
    exact request_refused h refuses nofun q 4
  · have clears : clearZone (zw :: rest) (trainFrameTaken s) = accept ((trainFrameTaken s).modZone z unassignZone) [] := by
      simp only [clearZone, zone_at, if_neg (mt busy_iff.1 idle)]
      rw [dropZone_shut (by exact shut)]
    exact request_answered h clears nofun h.owed q 4

end Sys2Proof.Machine

namespace Sys2Proof.Machine

/-! ## Pass timers (R86) -/

section
variable {s : State} {z : Zone}

/-- The zone's record with its pass timer started again (R86). -/
def timedAgain (r : ZoneRec) : ZoneRec := { r with passTimer := some (r.interval * 1000) }

theorem owePass_first (now : Nat) {r : ZoneRec} (h : r.owedPasses = 0) :
    owePass now r = { timedAgain r with owedPasses := 1, due := some now, state := .waiting } := if_pos h

theorem owePass_more (now : Nat) {r : ZoneRec} (some_ : 1 ≤ r.owedPasses) (few : r.owedPasses ≤ 7) :
    owePass now r = { timedAgain r with owedPasses := r.owedPasses + 1 } := by
  simp only [owePass, show r.owedPasses ≠ 0 by omega, show r.owedPasses < 8 by omega, if_true, if_false]
  rfl

theorem owePass_full (now : Nat) {r : ZoneRec} (full : r.owedPasses = 8) :
    owePass now r = { timedAgain r with iceRisk := true } := by
  simp only [owePass, show r.owedPasses ≠ 0 by omega, show ¬ r.owedPasses < 8 by omega, if_false]
  rfl

/-- The train link's record after an expiry that leaves the zone with record r (R86). -/
def iceTrain (s : State) (z : Zone) (r : ZoneRec) : Train :=
  if r.iceRisk then noteNotice (.iceRisk z r.owedPasses (ageSec s.now (r.due.getD s.now)) r.state) s.train else s.train

/-- An expiry of a pass timer that makes no start decision, or whose start decision finds no time for one. -/
theorem exec_passTimer {r : ZoneRec} (owed : s.owed = []) (runs : s.zones[z].passTimer ≠ none)
    (owes : owePass s.now s.zones[z] = r) (quiet : s.zones[z].owedPasses = 0 → gateOpen s = false ∨ s.stagger ≠ none) :
    exec (.passTimerExpiry z) s = .next (follows s { s with zones := s.zones.set z r, train := iceTrain s z r }) := by
  subst owes
  have noted : iceNotice z (s.modZone z (owePass s.now)) = { s with
      zones := s.zones.set z (owePass s.now s.zones[z]), train := iceTrain s z (owePass s.now s.zones[z]) } := by
    simp only [iceNotice, State.modZone_zones, upd_self, iceTrain]
    split <;> rfl
  have due : passDue z s = iceNotice z (s.modZone z (owePass s.now)) := by
    simp only [passDue]
    split
    case isTrue none_ => rw [noted]; exact startDecision_none (quiet none_)
    case isFalse => rfl
  exact react_eq_of ((if_pos (Option.isSome_iff_ne_none.2 runs)).trans (due.trans noted)) owed

theorem ageSec_past {now t : Nat} (h : t ≤ now) : ageSec now t = (now - t) / 1000 := if_pos h

end

/-! ## Starts from the queue (R90, R91, R93, R94) -/

section
variable {s : State} {z : Zone} {n : Node} {l : List BEntry}

theorem passQueue_sole (h : ∀ y : Zone, s.zones[y].state = .waiting ↔ y = z) : passQueue s = [z] := by
  rw [passQueue, filter_finRange_sole fun y => by rw [decide_eq_true_eq, h]]
  rfl

theorem pausedZones_none (h : ∀ y : Zone, s.zones[y].state ≠ .paused) : pausedZones s = [] :=
  List.filter_eq_nil_iff.2 fun y _ => by rw [decide_eq_true_eq]; exact h y

theorem nodePresent_of (node : s.zones[z].node = some n) (present : s.nodes[n].presence = .present) : nodePresent s z = true := by
  simp only [nodePresent, node, present, decide_true]

/-- A start decision with the one WAITING zone that can start, and no PAUSED zone, starts it. -/
theorem startDecision_sole (still : s.stagger = none) (waits : ∀ y : Zone, s.zones[y].state = .waiting ↔ y = z)
    (paused : ∀ y : Zone, s.zones[y].state ≠ .paused) (can : canStart s z = true) : startDecision s = startZone z s := by
  have gate := ((canStart_iff s z).1 can).2.2
  rw [startDecision, startDecisionBut, if_pos ⟨gate, still⟩, pausedZones_none paused]
  simp only [firstStartable, List.find?_nil, startFromQueue, passQueue_sole waits, startable_none, can, if_true]

/-- A start whose HEAT-ON finds its place (R94). -/
theorem startZone_placed (node : s.zones[z].node = some n) (fits : s.nodes[n].presence ≠ .mismatch)
    (hl : insertB ⟨n, .heatOn z, s.serial⟩ s.roof.classB = some l) : startZone z s = { s with
      zones := s.zones.set z { s.zones[z] with
        state := .heating, lastStart := some s.now, bypassed := 0, heatOnSerial := some s.serial }
      stagger := some s.settings.stagger, serial := s.serial + 1, roof := { s.roof with classB := l } } := by
  have zones : upd (upd s.zones z fun r => { r with bypassed := 0 }) z (heatRecord s.now s.serial) =
      s.zones.set z { s.zones[z] with
        state := .heating, lastStart := some s.now, bypassed := 0, heatOnSerial := some s.serial } := by
    rw [upd_upd]; rfl
  generalize started : (s.modZone z fun r => { r with bypassed := 0 }).modZone z (heatRecord s.now s.serial) = t
  have bound : t.zones[z].node = some n := by
    subst started; rw [State.modZone_zones, upd_self, State.modZone_zones, upd_self]; exact node
  have placed : placeHeatOn z t = placedB t l := placeHeatOn_placed bound (by subst started; exact fits) (by subst started; exact hl)
  have begins : startZone z s = { placeHeatOn z t with stagger := some (placeHeatOn z t).settings.stagger } := by
    subst started; rfl
  rw [begins, placed, ← zones]
  subst started
  rfl

end

/-! ## The end of a pass (R95) -/

theorem endPass_eq (r : ZoneRec) : endPass r =
    if 2 ≤ r.owedPasses then
      { r with
        owedPasses := r.owedPasses - 1, accum := 0, due := r.due.map (· + r.interval * 1000), state := .waiting, forced := false }
    else { r with owedPasses := 0, accum := 0, due := none, state := .idle, iceRisk := false, forced := false } :=
  if_congr (by omega) rfl rfl

/-- Settles O57: an expiry leaves the record that `owePass` gives with its notice, the one zone that can start does so when the
stagger timer has run out, and a pass ends as `endPass` says. -/
theorem heaterPassesFallDueStartAndEnd : Obligations.HeaterPassesFallDueStartAndEnd := by
  intro s z owed r
  refine ⟨fun stopped => ?_, fun runs => ?_, fun stopped => ?_, fun runs shut => ?_,
    fun n l runs gate waits paused node present room hl => ?_, fun off => ?_, fun n l heats runs node fits hl => ?_⟩
  · exact react_eq_of (if_neg (by rw [Option.isSome_iff_ne_none]; exact not_not.2 stopped)) owed
  · intro again
    refine ⟨fun first quiet => ?_, fun some_ few calm => ?_, fun t some_ few risk due past => ?_, fun t full due past => ?_⟩
    · have expires := exec_passTimer owed runs (owePass_first s.now first) fun _ => quiet
      have age : ageSec s.now s.now = 0 := by rw [ageSec_past (Nat.le_refl _), Nat.sub_self]
      simp only [iceTrain, Option.getD_some, age] at expires
      exact expires
    · have expires := exec_passTimer owed runs (owePass_more s.now some_ few) fun none_ => absurd none_ (Nat.ne_of_gt some_)
      have train : iceTrain s z { timedAgain s.zones[z] with owedPasses := s.zones[z].owedPasses + 1 } = s.train :=
        if_neg (by rw [Bool.not_eq_true]; exact calm)
      rw [train] at expires
      exact expires
    · have expires := exec_passTimer owed runs (owePass_more s.now some_ few) fun none_ => absurd none_ (Nat.ne_of_gt some_)
      have age : ageSec s.now (s.zones[z].due.getD s.now) = (s.now - t) / 1000 := by
        rw [show s.zones[z].due = some t from due, Option.getD_some, ageSec_past past]
      have train : iceTrain s z { timedAgain s.zones[z] with owedPasses := s.zones[z].owedPasses + 1 } =
          noteNotice (.iceRisk z (s.zones[z].owedPasses + 1) ((s.now - t) / 1000) s.zones[z].state) s.train := by
        rw [← age]; exact if_pos risk
      rw [train] at expires
      exact expires
    · have expires := exec_passTimer owed runs (owePass_full s.now full) fun none_ => absurd (none_.symm.trans full) (by decide)
      have age : ageSec s.now (s.zones[z].due.getD s.now) = (s.now - t) / 1000 := by
        rw [show s.zones[z].due = some t from due, Option.getD_some, ageSec_past past]
      have train : iceTrain s z { timedAgain s.zones[z] with iceRisk := true } =
          noteNotice (.iceRisk z 8 ((s.now - t) / 1000) s.zones[z].state) s.train := by
        rw [← age, ← full]; exact if_pos rfl
      rw [train] at expires
      exact expires
  · exact react_eq_of (if_neg (by rw [Option.isSome_iff_ne_none]; exact not_not.2 stopped)) owed
  · have expires : expireStagger s = startDecision { s with stagger := none } := if_pos (Option.isSome_iff_ne_none.2 runs)
    exact react_eq_of (expires.trans (startDecision_none (.inl shut))) owed
  · have expires : expireStagger s = startDecision { s with stagger := none } := if_pos (Option.isSome_iff_ne_none.2 runs)
    have can : canStart { s with stagger := none } z = true :=
      (canStart_iff ..).2 ⟨(fits_iff ..).2 room, nodePresent_of node present, gate⟩
    have starts := startDecision_sole (s := { s with stagger := none }) rfl waits paused can
    have placed := startZone_placed (s := { s with stagger := none }) node
      (by rw [show ({ s with stagger := none } : State).nodes[n].presence = _ from present]; nofun) hl
    exact react_eq_of (expires.trans (starts.trans placed)) owed
  · exact react_eq_of (if_neg off) owed
  · have placed := placeHeatOff_placed node fits hl
    have ends : passComplete z s = (placedB s l).modZone z endPass := by
      rw [passComplete, placed]; exact startDecision_none (.inr runs)
    have zones : (placedB s l).modZone z endPass =
        { placedB s l with zones := s.zones.set z (endPass s.zones[z]) } := rfl
    rw [endPass_eq] at zones
    exact react_eq_of ((if_pos heats).trans (ends.trans zones)) owed

end Sys2Proof.Machine

namespace Sys2Proof.Machine

/-! # The roof link and the node roster

## What the blocks' reactions leave to the arbiter's pick, the takeover evaluation and the outside

`State.outer` holds the roof frame in transmission, the takeover and the waiting commands. One lemma per operation of the model
says that it keeps them, in the order of the model's definitions; the operations that do change one of them (the picks, the
completions, the takeover's own, HELD and DEPOT-ACCESS) follow at the end. -/

/-- The roof frame in transmission (R131), the takeover (5.7) and the waiting commands (log 1). -/
structure Outer where
  roofTx : Option RoofTx
  takeover : Takeover
  pending : List Instr

def State.outer (s : State) : Outer := ⟨s.roof.tx, s.takeover, s.pending⟩

theorem outer_tx {s t : State} (h : t.outer = s.outer) : t.roof.tx = s.roof.tx := congrArg Outer.roofTx h

theorem outer_takeover {s t : State} (h : t.outer = s.outer) : t.takeover = s.takeover := congrArg Outer.takeover h

theorem outer_granted {s t : State} (h : t.outer = s.outer) : granted t = granted s :=
  congrArg (fun x : Takeover => decide (x.state = .granted)) (outer_takeover h)

@[simp] theorem outer_ite (p : Prop) [Decidable p] (s t : State) :
    (if p then s else t).outer = if p then s.outer else t.outer := apply_ite ..

/-- A run over a list whose every turn keeps `outer` keeps it. -/
theorem outer_foldl {α : Type} {f : State → α → State} (h : ∀ s x, (f s x).outer = s.outer) (l : List α) (s : State) :
    (l.foldl f s).outer = s.outer := by
  induction l generalizing s with
  | nil => rfl
  | cons x l ih => exact (ih _).trans (h s x)

/-- The Heater Scheduler's own operations keep `outer`. -/
theorem HeatOnly.outer {s t : State} (h : HeatOnly s t) : t.outer = s.outer := by
  rw [State.outer, h.roof, h.takeover, h.pending]; rfl

section
variable (s : State)

/-! ### Updates of one record -/

@[simp] theorem outer_modRecog (f : Recog → Recog) : (s.modRecog f).outer = s.outer := rfl
@[simp] theorem outer_modPos (p : Pos) (f : PosRec → PosRec) : (s.modPos p f).outer = s.outer := rfl
@[simp] theorem outer_modChan (c : Chan) (f : Channel → Channel) : (s.modChan c f).outer = s.outer := rfl
@[simp] theorem outer_modCo (f : Changeover → Changeover) : (s.modCo f).outer = s.outer := rfl
@[simp] theorem outer_modZone (z : Zone) (f : ZoneRec → ZoneRec) : (s.modZone z f).outer = s.outer := rfl
@[simp] theorem outer_modScrape (f : Scrape → Scrape) : (s.modScrape f).outer = s.outer := rfl
@[simp] theorem outer_modNode (n : Node) (f : NodeRec → NodeRec) : (s.modNode n f).outer = s.outer := rfl
@[simp] theorem outer_modFwd (f : Forward → Forward) : (s.modFwd f).outer = s.outer := rfl
@[simp] theorem outer_modTrain (f : Train → Train) : (s.modTrain f).outer = s.outer := rfl
@[simp] theorem outer_modSettings (f : Settings → Settings) : (s.modSettings f).outer = s.outer := rfl
@[simp] theorem outer_serial (n : Nat) : { s with serial := n }.outer = s.outer := rfl
@[simp] theorem outer_owed (l : List Owed) : { s with owed := l }.outer = s.outer := rfl
@[simp] theorem outer_stagger (x : Option Nat) : { s with stagger := x }.outer = s.outer := rfl
@[simp] theorem outer_announceRetry (x : Option Nat) : { s with announceRetry := x }.outer = s.outer := rfl

/-! ### Notices, responses, placements -/

@[simp] theorem outer_queueNotice (d : NoticeData) : (queueNotice d s).outer = s.outer := rfl
@[simp] theorem outer_addResponse (r : Response) : (addResponse r s).outer = s.outer := rfl
@[simp] theorem outer_placeA (n : Node) (f : AFrame) : (placeA n f s).outer = s.outer := rfl
@[simp] theorem outer_removeSustain (n : Node) : (removeSustain n s).outer = s.outer := rfl
@[simp] theorem outer_clearSlotA (n : Node) : (clearSlotA n s).outer = s.outer := rfl
@[simp] theorem outer_withdrawClose : (withdrawClose s).outer = s.outer := rfl
@[simp] theorem outer_withdrawRaise (n : Node) : (withdrawRaise n s).outer = s.outer := rfl

@[simp] theorem outer_raiseClearsLower (n : Node) (c : BCmd) : (raiseClearsLower n c s).outer = s.outer := by cases c <;> rfl

@[simp] theorem outer_placeB (n : Node) (c : BCmd) : (placeB n c s).outer = s.outer := by
  simp only [placeB]
  split
  · rfl
  · split
    · rfl
    · rw [outer_raiseClearsLower]; rfl

@[simp] theorem outer_placeForRole (r : Role) (c : BCmd) : (placeForRole r c s).outer = s.outer := by
  unfold placeForRole; split
  · exact outer_placeB ..
  · rfl

@[simp] theorem outer_placeABreaker (f : AFrame) : (placeABreaker f s).outer = s.outer := by
  unfold placeABreaker; split <;> rfl

@[simp] theorem outer_placeAnnounce (n : Node) : (placeAnnounce n s).outer = s.outer := by
  unfold placeAnnounce; split <;> rfl

@[simp] theorem outer_announceAbsent : (announceAbsent s).outer = s.outer := outer_foldl (fun s n => by simp) _ s

/-! ### The Heater Scheduler -/

@[simp] theorem outer_placeHeatOff (z : Zone) : (placeHeatOff z s).outer = s.outer := (HeatOnly.heatOff z s).outer

@[simp] theorem outer_placeHeatOffUnlessMismatch (z : Zone) : (placeHeatOffUnlessMismatch z s).outer = s.outer :=
  (HeatOnly.heatOffUnlessMismatch z s).outer

@[simp] theorem outer_heat (z : Zone) : (heat z s).outer = s.outer := (HeatOnly.heat z s).outer

@[simp] theorem outer_startZone (z : Zone) : (startZone z s).outer = s.outer := (HeatOnly.startZone z s).outer

@[simp] theorem outer_startDecisionBut (but : Option Zone) : (startDecisionBut but s).outer = s.outer :=
  (HeatOnly.startDecisionBut but s).outer

@[simp] theorem outer_startDecision : (startDecision s).outer = s.outer := (HeatOnly.startDecision s).outer

@[simp] theorem outer_gateChange (was : Bool) : (gateChange was s).outer = s.outer := (HeatOnly.gateChange was s).outer

@[simp] theorem outer_passDue (z : Zone) : (passDue z s).outer = s.outer := by simp [passDue, iceNotice]

@[simp] theorem outer_passComplete (z : Zone) : (passComplete z s).outer = s.outer := by simp [passComplete]

@[simp] theorem outer_contactorFailure (z : Zone) (kind : ZoneFailure) : (contactorFailure z kind s).outer = s.outer := by
  simp [contactorFailure]

@[simp] theorem outer_contactorReport (z : Zone) (p : ContactorPos) : (contactorReport z p s).outer = s.outer := by
  cases p <;> simp [contactorReport]

@[simp] theorem outer_contactorLost (n : Node) (kind : ZoneFailure) : (contactorLost n kind s).outer = s.outer := by
  unfold contactorLost; split <;> simp

@[simp] theorem outer_contactorPresence (n : Node) : (contactorPresence n s).outer = s.outer := by
  unfold contactorPresence; split <;> simp

@[simp] theorem outer_endRun (why : EndReason) : (endRun why s).outer = s.outer := (HeatOnly.endRun why s).outer

@[simp] theorem outer_forceStrip (strip : Option Zone) : (forceStrip strip s).outer = s.outer := by
  have shed (k : Nat) (z : Zone) (t : State) : (shed k z t).outer = t.outer := (HeatOnly.shed k z t).outer
  unfold forceStrip
  split
  · rfl
  · split
    · simp only [forceZone]; split <;> simp [shed]
    · rfl

@[simp] theorem outer_scrapeOnChannel (c : Chan) (old new : ChanState) : (scrapeOnChannel c old new s).outer = s.outer :=
  (HeatOnly.scrapeOnChannel c old new s).outer

/-! ### Pantograph Control -/

@[simp] theorem outer_placeAChan (c : Chan) (f : AFrame) : (placeAChan c f s).outer = s.outer := by
  unfold placeAChan; split <;> rfl

@[simp] theorem outer_removeSustainChan (c : Chan) : (removeSustainChan c s).outer = s.outer := by
  unfold removeSustainChan; split <;> rfl

@[simp] theorem outer_withdrawRaiseChan (c : Chan) : (withdrawRaiseChan c s).outer = s.outer := by
  unfold withdrawRaiseChan; split <;> rfl

@[simp] theorem outer_faultNotice (c : Chan) (f : ChanFault) (entered : ChanState) (cause : Option LowerCause) (k l : Nat) :
    (faultNotice c f entered cause k l s).outer = s.outer := by
  unfold faultNotice; split <;> rfl

@[simp] theorem outer_lowerCore (c : Chan) (cause : LowerCause) : (lowerCore c cause s).outer = s.outer := by simp [lowerCore]

@[simp] theorem outer_enterLowering (c : Chan) (cause : LowerCause) : (enterLowering c cause s).outer = s.outer := by
  simp [enterLowering]

@[simp] theorem outer_faultLowering (c : Chan) (f : ChanFault) : (faultLowering c f s).outer = s.outer := by simp [faultLowering]

@[simp] theorem outer_lowerRequest (c : Chan) (cause : LowerCause) : (lowerRequest c cause s).outer = s.outer := by
  simp [lowerRequest]

@[simp] theorem outer_lowerAll (cause : LowerCause) : (lowerAll cause s).outer = s.outer :=
  outer_foldl (fun s c => outer_lowerRequest s c cause) _ s

@[simp] theorem outer_raiseRequest (c : Chan) (d : Duty) : (raiseRequest c d s).outer = s.outer := by
  have placed (t : State) : (placeRaise c t).outer = t.outer := by unfold placeRaise; split <;> simp
  unfold raiseRequest
  split
  · rfl
  · simp [enterRaising, placed]

@[simp] theorem outer_addLocks (c : Chan) : (addLocks c s).outer = s.outer := by simp [addLocks]

@[simp] theorem outer_lockOnAdd (c : Chan) : (lockOnAdd c s).outer = s.outer := by simp [lockOnAdd]

@[simp] theorem outer_dropToCooldown (c : Chan) : (dropToCooldown c s).outer = s.outer := by simp [dropToCooldown]

@[simp] theorem outer_endLowering (c : Chan) : (endLowering c s).outer = s.outer := rfl

@[simp] theorem outer_lowerTimeout (c : Chan) : (lowerTimeout c s).outer = s.outer := by simp [lowerTimeout]

@[simp] theorem outer_raiseComplete (c : Chan) : (raiseComplete c s).outer = s.outer := by simp [raiseComplete]

@[simp] theorem outer_startRun (c : Chan) (o : Origin) : (startRun c o s).outer = s.outer := by simp [startRun]

@[simp] theorem outer_autoScrape : (autoScrape s).outer = s.outer := by
  unfold autoScrape; split <;> simp

/-! ### The Power Path Controller -/

@[simp] theorem outer_setCo (st : CoState) : (setCo st s).outer = s.outer := (setCo_heatOnly st s).outer

@[simp] theorem outer_startPhase (k : CoTimer) (ms : Nat) : (startPhase k ms s).outer = s.outer := rfl

@[simp] theorem outer_stopPhase : (stopPhase s).outer = s.outer := rfl

@[simp] theorem outer_openRepOn : (openRepOn s).outer = s.outer := by simp [openRepOn]

@[simp] theorem outer_breakerSustainOff : (breakerSustainOff s).outer = s.outer := by
  simp only [breakerSustainOff]; split <;> rfl

@[simp] theorem outer_closeDeparted : (closeDeparted s).outer = s.outer := by simp [closeDeparted]

@[simp] theorem outer_schedulerLowers (was : State) : (schedulerLowers was s).outer = s.outer := by
  unfold schedulerLowers; split <;> simp

@[simp] theorem outer_enterIdle : (enterIdle s).outer = s.outer := by simp [enterIdle]

@[simp] theorem outer_enterCoasting : (enterCoasting s).outer = s.outer := by simp [enterCoasting]

@[simp] theorem outer_finishLowering : (finishLowering s).outer = s.outer := by simp [finishLowering]

@[simp] theorem outer_lowerCollector (cause : LowerCause) : (lowerCollector cause s).outer = s.outer := by
  unfold lowerCollector; split <;> simp

@[simp] theorem outer_lowerScraper : (lowerScraper s).outer = s.outer := by
  unfold lowerScraper; split <;> simp

@[simp] theorem outer_enterCoLowering (plan : Plan) : (enterCoLowering plan s).outer = s.outer := by simp [enterCoLowering]

@[simp] theorem outer_enterLockout (cause : LockoutCause) : (enterLockout cause s).outer = s.outer := by simp [enterLockout]

@[simp] theorem outer_enterOpening (plan : Plan) : (enterOpening plan s).outer = s.outer := by simp [enterOpening]

@[simp] theorem outer_awaitSwitch : (awaitSwitch s).outer = s.outer := by
  simp only [awaitSwitch]; split <;> simp

@[simp] theorem outer_admitClose : (admitClose s).outer = s.outer := by simp [admitClose]

@[simp] theorem outer_lowerMisfits (k : SysId) : (lowerMisfits k s).outer = s.outer := outer_foldl (fun s c => by simp) _ s

@[simp] theorem outer_changeoverTo (k : SysId) : (changeoverTo k s).outer = s.outer := by simp [changeoverTo]

@[simp] theorem outer_neutralEntry : (neutralEntry s).outer = s.outer := by simp [neutralEntry]

@[simp] theorem outer_enterPath (n : Nat) (e : Entry) : (enterPath n e s).outer = s.outer := by
  induction n generalizing e s with
  | zero => rfl
  | succ n ih =>
    cases e with
    | switching => simp [enterPath_switching_entry, ih]
    | closing => simp [enterPath_closing_entry, ih]
    | neutral => rw [enterPath_neutral_entry]; split <;> simp [ih]

@[simp] theorem outer_enterSwitching : (enterSwitching s).outer = s.outer := outer_enterPath s 5 _

@[simp] theorem outer_enterClosing : (enterClosing s).outer = s.outer := outer_enterPath s 5 _

@[simp] theorem outer_enterNeutral : (enterNeutral s).outer = s.outer := outer_enterPath s 5 _

@[simp] theorem outer_evaluateNeutral : (evaluateNeutral s).outer = s.outer := by
  unfold evaluateNeutral; split <;> simp

@[simp] theorem outer_startWith (k : SysId) (c : Chan) : (startWith k c s).outer = s.outer := by simp [startWith]

@[simp] theorem outer_evaluateRecognizing (k : SysId) : (evaluateRecognizing k s).outer = s.outer := by
  simp [evaluateRecognizing]

@[simp] theorem outer_enterRecognizing : (enterRecognizing s).outer = s.outer := by
  simp only [enterRecognizing]; split <;> simp

@[simp] theorem outer_noSubstitute : (noSubstitute s).outer = s.outer := by simp [noSubstitute]

@[simp] theorem outer_substituteRaise : (substituteRaise s).outer = s.outer := by
  simp only [substituteRaise]
  split
  · simp
  · split <;> simp

@[simp] theorem outer_dropQueuedClose : (dropQueuedClose s).outer = s.outer := rfl

@[simp] theorem outer_collectorLost : (collectorLost s).outer = s.outer := by
  unfold collectorLost; split <;> simp

@[simp] theorem outer_coOnChannel (c : Chan) (old new : ChanState) : (coOnChannel c old new s).outer = s.outer := by
  simp [coOnChannel]

@[simp] theorem outer_coOnResult : (coOnResult s).outer = s.outer := by
  unfold coOnResult
  split
  case h_1 => split <;> simp
  all_goals simp

@[simp] theorem outer_countTrip (kind : TripKind) : (countTrip kind s).outer = s.outer := by simp [countTrip]

@[simp] theorem outer_afterTrip : (afterTrip s).outer = s.outer := by simp [afterTrip]

@[simp] theorem outer_enterPowered : (enterPowered s).outer = s.outer := by simp [enterPowered]

@[simp] theorem outer_carryOutPlan : (carryOutPlan s).outer = s.outer := by
  simp only [carryOutPlan]; split <;> simp

@[simp] theorem outer_breakerReport (p : BreakerPos) : (breakerReport p s).outer = s.outer := by
  simp only [breakerReport]
  split
  · split
    · simp
    · split <;> simp
  · split
    · simp
    · split <;> simp
  · rfl

@[simp] theorem outer_switchReport (p : Nat) : (switchReport p s).outer = s.outer := by
  simp only [switchReport]
  split
  case h_1 =>
    simp only [switchWhileSwitching]
    split
    · split
      · split <;> simp
      · rfl
    · simp
    · rfl
  all_goals simp

@[simp] theorem outer_breakerSilent : (breakerSilent s).outer = s.outer := by
  simp only [breakerSilent]; split <;> simp

@[simp] theorem outer_switchSilent : (switchSilent s).outer = s.outer := rfl

@[simp] theorem outer_coNodeMismatch : (coNodeMismatch s).outer = s.outer := by simp [coNodeMismatch]

@[simp] theorem outer_powerDown : (powerDown s).outer = s.outer := by
  simp only [powerDown]
  split
  · rfl
  · split
    case h_5 => split <;> simp
    all_goals simp

@[simp] theorem outer_gradedCollector : (gradedCollector s).outer = s.outer := by
  simp only [gradedCollector]
  split
  case h_2 | h_3 => split <;> simp
  all_goals simp

@[simp] theorem outer_switchOutcome (k : Nat) (o : CmdOutcome) : (switchOutcome k o s).outer = s.outer := by simp [switchOutcome]

@[simp] theorem outer_closeOutcome (k : Nat) (o : CmdOutcome) : (closeOutcome k o s).outer = s.outer := by simp [closeOutcome]

/-! ### What reaches a channel from outside -/

@[simp] theorem outer_chanFault (c : Chan) (f : ChanFault) : (chanFault c f s).outer = s.outer := by simp [chanFault]

@[simp] theorem outer_lowerByOther (c : Chan) (cause : LowerCause) : (lowerByOther c cause s).outer = s.outer := by
  simp [lowerByOther]

@[simp] theorem outer_arcWatch (c : Chan) (contact : Bool) (arc : Nat) : (arcWatch c contact arc s).outer = s.outer := by
  simp [arcWatch]

@[simp] theorem outer_superviseContact (c : Chan) (contact : Bool) (arc : Nat) :
    (superviseContact c contact arc s).outer = s.outer := by
  simp [superviseContact]

@[simp] theorem outer_loweringEnds (c : Chan) : (loweringEnds c s).outer = s.outer := by simp [loweringEnds]

@[simp] theorem outer_contactReport (p : Pos) (pos : PanPos) (contact add : Bool) (arc : Nat) :
    (contactReport p pos contact add arc s).outer = s.outer := by
  have added (c : Chan) (t : State) : (addReport c pos t).outer = t.outer := by
    unfold addReport; split <;> simp
  have plain (c : Chan) (t : State) : (plainReport c pos contact arc t).outer = t.outer := by
    unfold plainReport; split <;> simp
  simp only [contactReport]
  split <;> simp [added, plain]

@[simp] theorem outer_lowerWindowExpired (c : Chan) : (lowerWindowExpired c s).outer = s.outer := by simp [lowerWindowExpired]

@[simp] theorem outer_raiseOutcome (c : Chan) (k : Nat) (o : CmdOutcome) : (raiseOutcome c k o s).outer = s.outer := by
  simp [raiseOutcome]

@[simp] theorem outer_pantographPresence (n : Node) : (pantographPresence n s).outer = s.outer := by
  unfold pantographPresence
  split
  · rfl
  · split
    · split <;> simp
    · rfl

/-! ### The Node Roster -/

@[simp] theorem outer_deliverPart (c : BCmd) (k : Nat) (o : CmdOutcome) : (deliverPart c k o s).outer = s.outer := by
  cases c with
  | heatOn z =>
    simp only [deliverPart]
    split
    · cases o <;> simp
    · rfl
  | _ => simp [deliverPart]

@[simp] theorem outer_presenceHandOn (n : Node) : (presenceHandOn n s).outer = s.outer := by
  unfold presenceHandOn
  split
  case h_3 | h_4 => split <;> simp
  all_goals simp

@[simp] theorem outer_setPresence (n : Node) (p : Presence) : (setPresence n p s).outer = s.outer := by simp [setPresence]

@[simp] theorem outer_removeForMismatch (n : Node) : (removeForMismatch n s).outer = s.outer := by
  simp only [removeForMismatch]
  rw [outer_foldl (fun s e => outer_addResponse s _), outer_foldl (fun s e => outer_deliverPart s _ _ _)]
  rfl

@[simp] theorem outer_enterMismatch (n : Node) : (enterMismatch n s).outer = s.outer := by simp [enterMismatch]

@[simp] theorem outer_becomePresent (n : Node) : (becomePresent n s).outer = s.outer := by simp [becomePresent]

@[simp] theorem outer_judge (n : Node) (fresh : Bool) : (judge n fresh s).outer = s.outer := by
  unfold judge
  split
  · split <;> simp
  · simp

@[simp] theorem outer_announceReport (n : Node) (role cls : Word) : (announceReport n role cls s).outer = s.outer := by
  simp [announceReport]

@[simp] theorem outer_rejudge (n : Node) : (rejudge n s).outer = s.outer := by simp [rejudge]

@[simp] theorem outer_nodeSilenced (n : Node) : (nodeSilenced n s).outer = s.outer := by simp [nodeSilenced]

@[simp] theorem outer_deliver (o : Outstanding) (out : CmdOutcome) (data : List Word) : (deliver o out data s).outer = s.outer := by
  unfold deliver; split <;> simp

@[simp] theorem outer_emptySlot (n : Node) : (emptySlot n s).outer = s.outer := rfl

@[simp] theorem outer_ackReport (n : Node) (q : Byte) (p : List Word) : (ackReport n q p s).outer = s.outer := by
  unfold ackReport; split <;> simp

@[simp] theorem outer_ackTimeout (n : Node) : (ackTimeout n s).outer = s.outer := by
  unfold ackTimeout; split <;> simp

@[simp] theorem outer_offerMirror (m : MirrorCopy) : (offerMirror m s).outer = s.outer := by
  obtain ⟨f, k, e⟩ := offerMirror_eq m s
  rw [e]; rfl

@[simp] theorem outer_restartAge (n : Node) : (restartAge n s).outer = s.outer := by simp [restartAge]

@[simp] theorem outer_deliverReport (n : Node) (r : Report) : (deliverReport n r s).outer = s.outer := by
  cases r with
  | contact | contactor => simp only [deliverReport]; split <;> simp
  | _ => simp [deliverReport]

/-! ### Line Measurement and Recognition -/

@[simp] theorem outer_changeResult (w : LineResult) : (changeResult w s).outer = s.outer := by simp [changeResult]

@[simp] theorem outer_takeSample (w : Word) : (takeSample s w).outer = s.outer := by
  simp [takeSample, completeWindow, confirmResult]

@[simp] theorem outer_sampleDelivered (n : Node) (q : Byte) (p : List Word) : (sampleDelivered n q p s).outer = s.outer := by
  have arrives : (sampleArrival q p s).outer = s.outer := outer_foldl outer_takeSample p _
  simp [sampleDelivered, arrives]

@[simp] theorem outer_sampleTimeoutExpired : (sampleTimeoutExpired s).outer = s.outer := by
  simp only [sampleTimeoutExpired]
  split
  · split <;> simp
  · rfl

@[simp] theorem outer_deliverFrame (n : Node) (q : Byte) (f : RoofFrame) : (deliverFrame n q f s).outer = s.outer := by
  cases f with
  | report code p holds => cases holds <;> simp [deliverFrame]
  | _ => simp [deliverFrame]

@[simp] theorem outer_mirrorFrame (n : Node) (q : Byte) (f : RoofFrame) : (mirrorFrame n q f s).outer = s.outer := by
  unfold mirrorFrame; split <;> simp

@[simp] theorem outer_takeRoofFrame (n : Node) (q : Byte) (f : RoofFrame) : (takeRoofFrame n q f s).outer = s.outer := by
  have unconfigured : (unconfiguredFrame n f s).outer = s.outer := by unfold unconfiguredFrame; split <;> rfl
  have mismatch : (mismatchFrame n f s).outer = s.outer := by unfold mismatchFrame; split <;> simp
  simp [takeRoofFrame, unconfigured, mismatch]

/-! ### The exchange on the train link -/

@[simp] theorem outer_discardCommand : (discardCommand s).outer = s.outer := rfl

@[simp] theorem outer_decideCommand (n : Node) (q c : Byte) (p : List Word) : (decideCommand n q c p s).outer = s.outer := by
  unfold decideCommand; split <;> rfl

@[simp] theorem outer_trainFrameTaken : (trainFrameTaken s).outer = s.outer := rfl

@[simp] theorem outer_discardRequest : (discardRequest s).outer = s.outer := rfl

@[simp] theorem outer_nodeCommandFrame (n : Node) (q c : Byte) (p : List Word) :
    (nodeCommandFrame n q c p s).outer = s.outer := by
  simp [nodeCommandFrame]

/-! ### Outcomes owed -/

@[simp] theorem outer_payOwed (n : Nat) : (payOwed n s).outer = s.outer := by
  induction n generalizing s with
  | zero => rfl
  | succ n ih =>
    have one : (payOne s).outer = s.outer := by unfold payOne; split <;> simp
    simp [payOwed, ih, one]

@[simp] theorem outer_drain : (drain s).outer = s.outer := outer_payOwed s _

end

end Sys2Proof.Machine

namespace Sys2Proof.Machine

section
variable (s : State)

/-! ### Loads and clears -/

theorem outer_loadSystem (entry : List Word) : (loadSystem entry s).state.outer = s.outer := by
  unfold loadSystem
  split
  · split
    · rfl
    · split
      · unfold storeSystem
        split
        · rfl
        · split <;> rfl
      · rfl
  · rfl

theorem outer_loadWindow (entry : List Word) : (loadWindow entry s).state.outer = s.outer := by
  unfold loadWindow
  split
  · split
    · rfl
    · split
      · unfold storeWindow
        split
        · rfl
        · split <;> rfl
      · rfl
  · rfl

theorem outer_loadInterlock (entry : List Word) : (loadInterlock entry s).state.outer = s.outer := by
  unfold loadInterlock
  split
  · split
    · rfl
    · split
      · unfold storeInterlock
        split <;> rfl
      · rfl
  · rfl

theorem outer_rejudgeOld (old now : Option Node) : (rejudgeOld old now s).outer = s.outer := by
  unfold rejudgeOld; split <;> simp

theorem outer_loadPosition (entry : List Word) : (loadPosition entry s).state.outer = s.outer := by
  have admitted (p : Pos) (a : PosAssign) : (admitPosition p a s).state.outer = s.outer := by
    unfold admitPosition
    split
    · rfl
    · split
      · rfl
      · simp [storePosition, outer_rejudgeOld]
  unfold loadPosition
  split
  · split
    · rfl
    · split
      · exact admitted _ _
      · rfl
  · rfl

theorem outer_loadZone (entry : List Word) : (loadZone entry s).state.outer = s.outer := by
  unfold loadZone
  split
  · split
    · unfold admitZone
      split
      · rfl
      · split
        · rfl
        · split
          · rfl
          · simp [storeZone]
    · rfl
  · rfl

theorem outer_storeNode (n : Node) (role : Role) (period : Nat) : (storeNode n role period s).outer = s.outer := by
  simp [storeNode, loadPresence]

theorem outer_loadNode (entry : List Word) : (loadNode entry s).state.outer = s.outer := by
  unfold loadNode
  split
  · split
    · rfl
    · split
      · unfold admitNode
        split
        · rfl
        · split
          · rfl
          · exact outer_storeNode s ..
      · rfl
  · rfl

theorem outer_setConfig (i : ConfigItem) (c : Option Chan) (x : Nat) : (setConfig i c x s).outer = s.outer := by
  unfold setConfig; split <;> rfl

theorem outer_loadConfig (entry : List Word) : (loadConfig entry s).state.outer = s.outer := by
  unfold loadConfig
  split
  · split
    · rfl
    · split
      · rfl
      · exact outer_setConfig s ..
  · rfl

theorem outer_clearSlot {n : Nat} (key : List Word) {clear : Fin n → State} (h : ∀ i, (clear i).outer = s.outer) :
    (clearSlot key s clear).state.outer = s.outer := by
  unfold clearSlot
  split
  · split
    · rfl
    · split
      · exact h _
      · rfl
  · rfl

theorem outer_clearSystem (key : List Word) : (clearSystem key s).state.outer = s.outer := outer_clearSlot s key fun _ => rfl

theorem outer_clearWindow (key : List Word) : (clearWindow key s).state.outer = s.outer := outer_clearSlot s key fun _ => rfl

theorem outer_clearInterlock (key : List Word) : (clearInterlock key s).state.outer = s.outer := outer_clearSlot s key fun _ => rfl

theorem outer_clearPosition (key : List Word) : (clearPosition key s).state.outer = s.outer :=
  outer_clearSlot s key fun _ => outer_rejudgeOld ..

theorem outer_clearZone (key : List Word) : (clearZone key s).state.outer = s.outer := by
  unfold clearZone
  split
  · split
    · split
      · rfl
      · simp [dropZone]
    · rfl
  · rfl

theorem outer_clearNode (key : List Word) : (clearNode key s).state.outer = s.outer := by
  unfold clearNode
  split
  · split
    · rfl
    · split
      · split <;> rfl
      · rfl
  · rfl

theorem outer_clearConfig (key : List Word) : (clearConfig key s).state.outer = s.outer := by
  unfold clearConfig
  split
  · split
    · rfl
    · exact outer_setConfig s ..
  · rfl

/-! ### The orders -/

theorem outer_startFor (k : SysId) : (startFor k s).state.outer = s.outer := by
  unfold startFor; split <;> simp

theorem outer_whileBusy (k : SysId) : (whileBusy k s).state.outer = s.outer := by
  unfold whileBusy; split <;> rfl

theorem outer_reorderInNeutral (k : SysId) : (reorderInNeutral k s).outer = s.outer := by
  simp only [reorderInNeutral]; split <;> simp

theorem outer_powerUpOrder (k : SysId) : (powerUpOrder k s).state.outer = s.outer := by
  have reclosed : (reclose k s).outer = s.outer := by simp only [reclose]; split <;> simp
  unfold powerUpOrder
  split <;> simp [outer_startFor, outer_whileBusy, outer_reorderInNeutral, reclosed, leaveFor]

theorem outer_changeoverOrder (k : SysId) : (changeoverOrder k s).state.outer = s.outer := by
  unfold changeoverOrder
  split <;> simp [outer_startFor, outer_whileBusy, outer_reorderInNeutral, leaveFor]

theorem outer_neutralAheadOrder : (neutralAheadOrder s).state.outer = s.outer := by
  unfold neutralAheadOrder; split <;> simp

theorem outer_sectionClearOrder : (sectionClearOrder s).state.outer = s.outer := by
  unfold sectionClearOrder
  split
  · split
    · exact outer_startFor s _
    · rfl
  all_goals rfl

theorem outer_heldOr {order : State → Reply} (h : (order s).state.outer = s.outer) : (heldOr order s).state.outer = s.outer := by
  unfold heldOr; split
  · rfl
  · exact h

theorem outer_systemOrder {order : SysId → State → Reply} (h : ∀ k, (order k s).state.outer = s.outer) (p : List Word) :
    (systemOrder order p s).state.outer = s.outer := by
  unfold systemOrder
  split
  · rfl
  · split
    · rfl
    · split
      · rfl
      · exact outer_heldOr s (h _)

theorem outer_clearLockoutOrder : (clearLockoutOrder s).state.outer = s.outer := by
  unfold clearLockoutOrder
  split
  · rfl
  · split <;> simp

theorem outer_loweringOrderReply (p : List Word) : (loweringOrderReply p s).state.outer = s.outer := by
  unfold loweringOrderReply
  split
  · rfl
  · split <;> simp [gradedLowering, outer_foldl]

theorem outer_channelOrder {act : Chan → State → Reply} (h : ∀ c, (act c s).state.outer = s.outer) (p : List Word) :
    (channelOrder act p s).state.outer = s.outer := by
  unfold channelOrder
  split
  · rfl
  · split
    · rfl
    · exact h _

@[simp] theorem outer_becomeDown (c : Chan) : (becomeDown c s).outer = s.outer := by simp [becomeDown]

theorem outer_channelResetOrder (c : Chan) : (channelResetOrder c s).state.outer = s.outer := by
  have core : (resetCore c s).outer = s.outer := by simp only [resetCore]; split <;> rfl
  have resets : (resetChannel c s).outer = s.outer := by simp only [resetChannel]; split <;> simp [core]
  unfold channelResetOrder
  split
  · rfl
  · split <;> simp [resets]

theorem outer_channelLowerOrder (c : Chan) : (channelLowerOrder c s).state.outer = s.outer := by
  unfold channelLowerOrder
  split
  · rfl
  · split
    · rfl
    · split <;> simp

theorem outer_remapOrder (p : List Word) : (remapOrder p s).state.outer = s.outer := by
  unfold remapOrder
  split
  · split
    · split
      · rfl
      · split <;> rfl
    · rfl
  · rfl

@[simp] theorem outer_endRunAndLower (why : EndReason) : (endRunAndLower why s).outer = s.outer := by
  unfold endRunAndLower; split <;> simp

theorem outer_iceSeasonOrder (p : List Word) : (iceSeasonOrder p s).state.outer = s.outer := by
  unfold iceSeasonOrder
  split
  · rfl
  · split
    · rfl
    · simp only [accept_state, setSeason]
      split
      · rfl
      · split
        · rfl
        · rw [outer_endRunAndLower]; rfl

theorem outer_scrapeOrder : (scrapeOrder s).state.outer = s.outer := by
  unfold scrapeOrder
  split
  · rfl
  · split
    · rfl
    · split <;> simp

theorem outer_noticeFilterOrder (p : List Word) : (noticeFilterOrder p s).state.outer = s.outer := by
  unfold noticeFilterOrder
  split
  · split
    · split <;> rfl
    · rfl
  · rfl

theorem outer_partResetOrder : (partResetOrder s).state.outer = s.outer := by
  unfold partResetOrder; split <;> rfl

/-! ### Expiries -/

theorem outer_expireRaiseWindow (c : Chan) : (expireRaiseWindow c s).outer = s.outer := by simp [expireRaiseWindow]
theorem outer_expireLowerWindow (c : Chan) : (expireLowerWindow c s).outer = s.outer := by simp [expireLowerWindow]
theorem outer_expireLowerRep (c : Chan) : (expireLowerRep c s).outer = s.outer := by simp [expireLowerRep]
theorem outer_expireCooldown (c : Chan) : (expireCooldown c s).outer = s.outer := by simp [expireCooldown]
theorem outer_expireChanSustain (c : Chan) : (expireChanSustain c s).outer = s.outer := by simp [expireChanSustain]
theorem outer_expireBreakerSustain : (expireBreakerSustain s).outer = s.outer := by simp [expireBreakerSustain]
theorem outer_expireOpenRep : (expireOpenRep s).outer = s.outer := by simp [expireOpenRep]
theorem outer_expireSample : (expireSample s).outer = s.outer := by simp [expireSample]
theorem outer_expireRecognition : (expireRecognition s).outer = s.outer := by simp [expireRecognition]
theorem outer_expireSwitchWindow : (expireSwitchWindow s).outer = s.outer := by simp [expireSwitchWindow]
theorem outer_expireSettle : (expireSettle s).outer = s.outer := by simp [expireSettle]
theorem outer_expireCloseWindow : (expireCloseWindow s).outer = s.outer := by simp [expireCloseWindow]
theorem outer_expireOpenWindow : (expireOpenWindow s).outer = s.outer := by simp [expireOpenWindow]
theorem outer_expireNeutral : (expireNeutral s).outer = s.outer := by simp [expireNeutral]
theorem outer_expireTripQuiet : (expireTripQuiet s).outer = s.outer := by simp [expireTripQuiet]
theorem outer_expirePassTimer (z : Zone) : (expirePassTimer z s).outer = s.outer := by simp [expirePassTimer]
theorem outer_expireStagger : (expireStagger s).outer = s.outer := by simp [expireStagger]
theorem outer_expirePass (z : Zone) : (expirePass z s).outer = s.outer := by simp [expirePass]
theorem outer_expireScrape : (expireScrape s).outer = s.outer := by simp [expireScrape]
theorem outer_expireAnnounce : (expireAnnounce s).outer = s.outer := by simp [expireAnnounce]

theorem outer_expireSilence : (expireSilence s).outer = s.outer := by
  simp only [expireSilence]; split <;> simp

end

/-! ## The takeover and the roof transmitter (R120, R122, R129, R131, R135) -/

section
variable (s : State)

@[simp] theorem outer_trainPick : (trainPick s).outer = s.outer := by
  unfold trainPick
  split
  · rfl
  · split
    · rfl
    · split
      · rfl
      · split <;> rfl

theorem tx_grant : (grant s).roof.tx = s.roof.tx := (outer_tx (outer_gateChange ..)).trans rfl

theorem tx_evaluateTakeover : (evaluateTakeover s).roof.tx = s.roof.tx := by
  unfold evaluateTakeover
  split
  · split
    · split
      · exact tx_grant s
      · rfl
    · rfl
  · split <;> rfl
  · rfl

theorem tx_takeoverAfter (was : State) : (takeoverAfter was s).roof.tx = s.roof.tx := by
  unfold takeoverAfter
  split
  · rfl
  · exact tx_evaluateTakeover s

@[simp] theorem outer_tellDeparture (x : RoofItem) : (tellDeparture x s).outer = s.outer := by
  unfold tellDeparture
  split
  · split <;> simp
  all_goals rfl

/-- A pick starts a frame, and leaves the takeover as it is. -/
theorem takeover_roofPick : (roofPick s).takeover = s.takeover := by
  unfold roofPick
  split
  · rfl
  · split
    · rfl
    · exact (outer_takeover (outer_tellDeparture ..)).trans rfl

/-- No pick is made during a grant (R129, R135). -/
theorem roofPick_granted (h : granted s = true) : roofPick s = s := if_pos (.inr h)

theorem granted_follows (was : State) : granted (follows was s) = granted (takeoverAfter was s) := by
  have takeover : (follows was s).takeover = (takeoverAfter was s).takeover :=
    (outer_takeover (outer_trainPick _)).trans (takeover_roofPick _)
  rw [granted, takeover, granted]

/-- Where a reaction leaves the takeover GRANTED, what follows its action starts no roof frame. -/
theorem tx_settle {was : State} (h : granted (settle was s) = true) : (settle was s).roof.tx = s.roof.tx := by
  have grants : granted (takeoverAfter was (drain s)) = true := (granted_follows (drain s) was).symm.trans h
  calc (settle was s).roof.tx
      = (roofPick (takeoverAfter was (drain s))).roof.tx := outer_tx (outer_trainPick _)
    _ = (takeoverAfter was (drain s)).roof.tx := by rw [roofPick_granted _ grants]
    _ = (drain s).roof.tx := tx_takeoverAfter _ was
    _ = s.roof.tx := outer_tx (outer_drain s)

/-! ### Part reset, completions and the request pin -/

theorem outer_resetChannels : (resetChannels s).outer = s.outer := by
  obtain ⟨_, _, _, _, _, _, _, e⟩ := channelsOnly_resetChannels s
  rw [e]; rfl

theorem outer_resetScheduler : (resetScheduler s).outer = s.outer := by
  obtain ⟨_, _, _, e⟩ := Placed.fold placed_resetHeatOff (List.finRange 10) (s.modScrape fun _ => {})
  simp only [resetScheduler, e]
  rfl

theorem outer_resetForward : (resetForward s).outer = s.outer := rfl

theorem outer_resetRoster : (resetRoster s).outer = s.outer := rfl

theorem tx_endOfReset : (endOfReset s).roof.tx = s.roof.tx := by
  obtain ⟨_, _, e⟩ := announced_announceAbsent s
  simp only [endOfReset, e]
  split
  · exact tx_evaluateTakeover _
  · rfl

/-- A part reset starts no roof frame (R136). -/
theorem tx_partReset : (partReset s).roof.tx = s.roof.tx.map fun x => { x with fills := false } := by
  rw [partReset, tx_endOfReset, outer_tx (outer_resetRoster _), outer_tx (outer_resetForward _), outer_tx (outer_resetScheduler _),
    resetChangeover, State.modCo_roof, outer_tx (outer_resetChannels _)]
  rfl

theorem tx_trainComplete (idle : s.roof.tx = none) : (trainComplete s).roof.tx = none := by
  simp only [trainComplete]
  split
  · exact idle
  · split
    · rw [tx_partReset, State.modTrain_roof, idle]; rfl
    · exact idle

/-- With the request off and no grant in force the takeover evaluation grants nothing (R120). -/
theorem granted_takeoverAfter_off {was : State} (off : s.takeover.request = false) (free : granted s = false) :
    granted (takeoverAfter was s) = false := by
  have unmet : grantConditions s = false := by simp [grantConditions, off]
  unfold takeoverAfter
  split
  · exact free
  · unfold evaluateTakeover
    simp only [unmet, Bool.false_eq_true, if_false]
    split
    case h_1 => exact free
    case h_2 => rfl
    case h_3 => exact free

end

end Sys2Proof.Machine

namespace Sys2Proof.Machine

/-! ### The end of a grant (R122) -/

theorem takeover_releaseGrant (s : State) :
    (releaseGrant s).takeover = { s.takeover with state := .noTakeover, held := false } := by
  rw [releaseGrant, outer_takeover (outer_announceAbsent _), takeover_roofPick, outer_takeover (outer_gateChange ..)]
  rfl

/-- After the request is deasserted it is off and no grant is in force. -/
theorem requestDeasserted_free (s : State) :
    (requestDeasserted s).takeover.request = false ∧ granted (requestDeasserted s) = false := by
  simp only [requestDeasserted]
  split
  · rw [granted, takeover_releaseGrant]; exact ⟨rfl, rfl⟩
  · exact ⟨rfl, rfl⟩
  · rename_i h; exact ⟨rfl, by rw [granted, h]; rfl⟩

/-- No grant follows the deassertion of the request. -/
theorem granted_requestDeasserted (s : State) : granted (settle s (requestDeasserted s)) = false := by
  obtain ⟨off, free⟩ := requestDeasserted_free s
  rw [settle, granted_follows]
  refine granted_takeoverAfter_off _ ?_ ?_
  · rw [outer_takeover (outer_drain _)]; exact off
  · rw [outer_granted (outer_drain _)]; exact free

/-! ### Every command -/

section
variable {s t : State}

/-- A reaction whose action starts no frame on an IDLE transmitter starts none where a grant stands after it. -/
theorem tx_react {act : State → State} (idle : (act s).roof.tx = none) (e : react act s = .next t) (grant : granted t = true) :
    t.roof.tx = none := by
  cases e
  exact (tx_settle _ grant).trans idle

/-- The same of an action that keeps `outer`. -/
theorem tx_reacts {act : State → State} (idle : s.roof.tx = none) (same : (act s).outer = s.outer) (e : react act s = .next t)
    (grant : granted t = true) : t.roof.tx = none :=
  tx_react ((outer_tx same).trans idle) e grant

theorem tx_noteHeld (r : Result) (s : State) : (noteHeld r s).roof.tx = s.roof.tx := by unfold noteHeld; split <;> rfl

/-- The same of a management request whose own rule starts no frame. -/
theorem tx_request {decide : State → Reply} (idle : s.roof.tx = none) (same : ∀ s, (decide s).state.roof.tx = s.roof.tx) {q c : Byte}
    (e : react (manage q c decide) s = .next t) (grant : granted t = true) : t.roof.tx = none := by
  refine tx_react ?_ e grant
  simp only [manage]
  split
  · exact idle
  · exact (tx_noteHeld ..).trans ((same _).trans idle)

theorem tx_requests {decide : State → Reply} (idle : s.roof.tx = none) (same : ∀ s, (decide s).state.outer = s.outer) {q c : Byte}
    (e : react (manage q c decide) s = .next t) (grant : granted t = true) : t.roof.tx = none :=
  tx_request idle (fun s => outer_tx (same s)) e grant

theorem tx_roofComplete (s : State) (idle : s.roof.tx = none) : (roofComplete s).roof.tx = none := by
  simp only [roofComplete, idle]

theorem tx_depotAccessOrder (p : List Word) (s : State) : (depotAccessOrder p s).state.roof.tx = s.roof.tx := by
  unfold depotAccessOrder
  split
  · rfl
  · split <;> rfl

/-- On an IDLE roof transmitter no command starts a frame and leaves a grant in force. -/
theorem exec_tx {c : Instr} (idle : s.roof.tx = none) (e : exec c s = .next t) (grant : granted t = true) : t.roof.tx = none := by
  cases c with
  | powerOnReset => cases e; rfl
  | roofFrameIgnored => cases e; exact idle
  | trainFrameIgnored => cases e; exact idle
  | takeoverRequestAsserted => exact tx_react idle e grant
  | takeoverRequestDeasserted =>
    cases e
    exact absurd ((granted_requestDeasserted s).symm.trans grant) Bool.false_ne_true
  | roofTransmissionComplete => exact tx_react (tx_roofComplete s idle) e grant
  | trainTransmissionComplete => exact tx_react (tx_trainComplete s idle) e grant
  | depotAccess q p => exact tx_request idle (tx_depotAccessOrder p) e grant
  | roofFrameCheckFailure kind => exact tx_reacts idle rfl e grant
  | trainFrameCheckFailure kind => exact tx_reacts idle rfl e grant
  | sample n q p => exact tx_reacts idle (outer_takeRoofFrame s n q _) e grant
  | contact n q p | breakerState n q p | switchState n q p | contactorState n q p | announce n q p =>
    exact tx_reacts idle (outer_takeRoofFrame s n q _) e grant
  | ack n q k p | unknownReport n q k p => exact tx_reacts idle (outer_takeRoofFrame s n q _) e grant
  | nodeCommand n q k p => exact tx_reacts idle (outer_nodeCommandFrame s n q k p) e grant
  | unknownRequest q k p => exact tx_requests idle (fun _ => rfl) e grant
  | readStatus q p => exact tx_requests idle (fun s => congrArg State.outer (readRecord_isRead p s).state) e grant
  | readEntry q p => exact tx_requests idle (fun s => congrArg State.outer (readTable_isRead p s).state) e grant
  | loadEntrySystem q x => exact tx_requests idle (outer_loadSystem · x) e grant
  | loadEntryPosition q x => exact tx_requests idle (outer_loadPosition · x) e grant
  | loadEntryZone q x => exact tx_requests idle (outer_loadZone · x) e grant
  | loadEntryNode q x => exact tx_requests idle (outer_loadNode · x) e grant
  | loadEntryWindow q x => exact tx_requests idle (outer_loadWindow · x) e grant
  | loadEntryInterlock q x => exact tx_requests idle (outer_loadInterlock · x) e grant
  | loadEntryConfig q x => exact tx_requests idle (outer_loadConfig · x) e grant
  | clearEntrySystem q x => exact tx_requests idle (outer_clearSystem · x) e grant
  | clearEntryWindow q x => exact tx_requests idle (outer_clearWindow · x) e grant
  | clearEntryInterlock q x => exact tx_requests idle (outer_clearInterlock · x) e grant
  | clearEntryPosition q x => exact tx_requests idle (outer_clearPosition · x) e grant
  | clearEntryZone q x => exact tx_requests idle (outer_clearZone · x) e grant
  | clearEntryNode q x => exact tx_requests idle (outer_clearNode · x) e grant
  | clearEntryConfig q x => exact tx_requests idle (outer_clearConfig · x) e grant
  | powerUp q p => exact tx_requests idle (fun s => outer_systemOrder s (outer_powerUpOrder s) p) e grant
  | changeover q p => exact tx_requests idle (fun s => outer_systemOrder s (outer_changeoverOrder s) p) e grant
  | powerDown q p => exact tx_requests idle (fun s => outer_heldOr s (outer_powerDown s)) e grant
  | neutralAhead q p => exact tx_requests idle (fun s => outer_heldOr s (outer_neutralAheadOrder s)) e grant
  | sectionClear q p => exact tx_requests idle (fun s => outer_heldOr s (outer_sectionClearOrder s)) e grant
  | clearLockout q p => exact tx_requests idle outer_clearLockoutOrder e grant
  | loweringOrder q p => exact tx_requests idle (outer_loweringOrderReply · p) e grant
  | channelReset q p => exact tx_requests idle (fun s => outer_channelOrder s (outer_channelResetOrder s) p) e grant
  | channelLower q p => exact tx_requests idle (fun s => outer_channelOrder s (outer_channelLowerOrder s) p) e grant
  | remap q p => exact tx_requests idle (outer_remapOrder · p) e grant
  | iceSeason q p => exact tx_requests idle (outer_iceSeasonOrder · p) e grant
  | scrape q p => exact tx_requests idle outer_scrapeOrder e grant
  | noticeFilter q p => exact tx_requests idle (outer_noticeFilterOrder · p) e grant
  | partReset q p => exact tx_requests idle outer_partResetOrder e grant
  | sampleTimeout => exact tx_reacts idle (outer_expireSample s) e grant
  | raiseWindowExpiry c => exact tx_reacts idle (outer_expireRaiseWindow s c) e grant
  | lowerWindowExpiry c => exact tx_reacts idle (outer_expireLowerWindow s c) e grant
  | lowerRepetition c => exact tx_reacts idle (outer_expireLowerRep s c) e grant
  | cooldownExpiry c => exact tx_reacts idle (outer_expireCooldown s c) e grant
  | channelSustainTimerExpiry c => exact tx_reacts idle (outer_expireChanSustain s c) e grant
  | breakerSustainTimerExpiry => exact tx_reacts idle (outer_expireBreakerSustain s) e grant
  | openRepetition => exact tx_reacts idle (outer_expireOpenRep s) e grant
  | recognitionDeadlineExpiry => exact tx_reacts idle (outer_expireRecognition s) e grant
  | switchWindowExpiry => exact tx_reacts idle (outer_expireSwitchWindow s) e grant
  | settleIntervalExpiry => exact tx_reacts idle (outer_expireSettle s) e grant
  | closeWindowExpiry => exact tx_reacts idle (outer_expireCloseWindow s) e grant
  | openWindowExpiry => exact tx_reacts idle (outer_expireOpenWindow s) e grant
  | neutralDeadlineExpiry => exact tx_reacts idle (outer_expireNeutral s) e grant
  | tripQuietTimerExpiry => exact tx_reacts idle (outer_expireTripQuiet s) e grant
  | passTimerExpiry z => exact tx_reacts idle (outer_expirePassTimer s z) e grant
  | staggerTimerExpiry => exact tx_reacts idle (outer_expireStagger s) e grant
  | passCompletion z => exact tx_reacts idle (outer_expirePass s z) e grant
  | scrapeTimerExpiry => exact tx_reacts idle (outer_expireScrape s) e grant
  | nodeSilence n => exact tx_reacts idle (outer_nodeSilenced s n) e grant
  | ackDeadlineExpiry n => exact tx_reacts idle (outer_ackTimeout s n) e grant
  | announceRetryTimerExpiry => exact tx_reacts idle (outer_expireAnnounce s) e grant
  | trainLinkSilenceExpiry => exact tx_reacts idle (outer_expireSilence s) e grant

end

/-- Settles O13: no action but the end of a grant starts a roof frame, the pick that follows an action starts none during a grant,
and the end of a grant leaves none in force. -/
theorem noRoofFrameDuringAGrant : Obligations.NoRoofFrameDuringAGrant := fun _ _ _ idle e grant => exec_tx idle e grant

end Sys2Proof.Machine

namespace Sys2Proof.Machine

/-! ## Between commands no transmitter waits (R112, R129, R157) -/

section
variable (s : State)

/-- A grant is given in IDLE, where the heater gate is shut already (R88, R120). -/
theorem grant_eq (h : s.co.state ≠ .powered) : grant s = s.modTakeover fun t => { t with state := .granted } :=
  gateChange_same ((gateOpen_eq_false (s := s.modTakeover fun t => { t with state := .granted }) h).trans (gateOpen_eq_false h).symm)

theorem idle_of_grantConditions (h : grantConditions s = true) : s.co.state = .idle := by
  simp only [grantConditions, Bool.and_eq_true, decide_eq_true_eq] at h
  exact h.1.2

/-- The takeover evaluation changes the takeover alone. -/
theorem takeoverAfter_eq (was : State) : ∃ k, takeoverAfter was s = { s with takeover := k } := by
  have unchanged : ∃ k, s = { s with takeover := k } := ⟨_, rfl⟩
  unfold takeoverAfter
  split
  · exact unchanged
  · unfold evaluateTakeover
    split
    · split
      case isTrue met =>
        split
        · rw [grant_eq s (by rw [idle_of_grantConditions s met]; nofun)]; exact ⟨_, rfl⟩
        · exact ⟨_, rfl⟩
      case isFalse => exact unchanged
    · split
      · exact unchanged
      · exact ⟨_, rfl⟩
    · exact unchanged

/-- The train pick changes the Train Link Interface and takes from the mirror buffer. -/
theorem trainPick_eq : ∃ f k, trainPick s = { s with fwd := f, train := k } := by
  unfold trainPick
  split
  · exact ⟨_, _, rfl⟩
  · split
    · exact ⟨_, _, rfl⟩
    · split
      · exact ⟨_, _, rfl⟩
      · split <;> exact ⟨_, _, rfl⟩

/-- The roof pick changes the arbiter, and with a CLOSE the Power Path Controller (R131, R133). -/
theorem roofPick_eq : ∃ c r, roofPick s = { s with co := c, roof := r } := by
  unfold roofPick
  split
  · exact ⟨_, _, rfl⟩
  · split
    · exact ⟨_, _, rfl⟩
    · unfold sendRoof tellDeparture closeDeparted placeABreaker
      split
      · split
        · split <;> exact ⟨_, _, rfl⟩
        all_goals exact ⟨_, _, rfl⟩
      all_goals exact ⟨_, _, rfl⟩

theorem owed_roofPick : (roofPick s).owed = s.owed := by
  obtain ⟨_, _, picks⟩ := roofPick_eq s
  rw [picks]

theorem owed_follows (was : State) : (follows was s).owed = s.owed := by
  obtain ⟨_, _, picks⟩ := trainPick_eq (roofPick (takeoverAfter was s))
  obtain ⟨_, evaluates⟩ := takeoverAfter_eq s was
  rw [follows, picks]
  exact (owed_roofPick _).trans (by rw [evaluates])

/-! ### The roof pick leaves nothing it may take -/

theorem roofPick_busy (h : s.roof.tx ≠ none) : roofPick s = s := if_pos (.inl (Option.isSome_iff_ne_none.2 h))

theorem roofPick_none (h : nextRoof s = none) : roofPick s = s := by simp only [roofPick, h, ite_self]

theorem roofPick_some (idle : s.roof.tx = none) (free : granted s = false) {x : RoofItem} (h : nextRoof s = some x) :
    roofPick s = sendRoof x s := by
  simp [roofPick, idle, free, h]

/-- A frame that is chosen is in transmission. -/
theorem tx_sendRoof (x : RoofItem) : (sendRoof x s).roof.tx = some { item := x, seq := frameSeq s x } :=
  (outer_tx (outer_tellDeparture ..)).trans rfl

theorem nextRoof_roofPick (idle : (roofPick s).roof.tx = none) (free : granted (roofPick s) = false) :
    nextRoof (roofPick s) = none := by
  have before : granted s = false := by rw [granted, ← takeover_roofPick]; exact free
  by_cases busy : s.roof.tx = none
  · cases next : nextRoof s with
    | none => rw [roofPick_none s next]; exact next
    | some x => rw [roofPick_some s busy before next, tx_sendRoof] at idle; cases idle
  · rw [roofPick_busy s busy] at idle; exact absurd idle busy

/-- What the choice of the next roof frame reads (R129). -/
theorem nextRoof_congr {t : State} (roof : t.roof = s.roof) (free : ∀ n, slotFree t n = slotFree s n)
    (limit : t.settings.txBypass = s.settings.txBypass) : nextRoof t = nextRoof s := by
  have pick : pickA t = pickA s := by simp only [pickA, classAFirst, roof]
  have head : headPickable t = headPickable s := by simp only [headPickable, roof, free]
  have b : pickB t = pickB s := by simp only [pickB, roof, free]
  have c : pickC t = pickC s := by simp only [pickC, roof, free]
  simp only [nextRoof, pick, head, b, c, limit, roof]

/-! ### The train pick leaves nothing to send -/

theorem tellLost_tx (t : Train) : (tellLost t).tx = t.tx := by unfold tellLost; split <;> rfl

theorem noteSent_tx (d : NoticeData) (t : Train) : (noteSent d t).tx = t.tx := by unfold noteSent; split <;> rfl

theorem sendNotice_tx (n : Notice) (l : List Notice) (t : Train) : (sendNotice n l t).tx = some (.notice t.noticeSeq n) := by
  rw [sendNotice, tellLost_tx, noteSent_tx]

theorem trainPick_empties (idle : (trainPick s).train.tx = none) :
    (trainPick s).train.responses = [] ∧ (trainPick s).train.notices = [] ∧ (trainPick s).fwd.mirror = [] := by
  unfold trainPick at idle ⊢
  split
  case isTrue busy => rw [if_pos busy] at idle; rw [idle] at busy; cases busy
  case isFalse free =>
    rw [if_neg free] at idle
    split
    case h_1 e => rw [e] at idle; cases idle
    case h_2 responses =>
      rw [responses] at idle
      split
      case h_1 e => rw [e, State.modTrain_train, sendNotice_tx] at idle; cases idle
      case h_2 notices =>
        rw [notices] at idle
        split
        case h_1 e => rw [e] at idle; cases idle
        case h_2 copies => exact ⟨responses, notices, copies⟩

/-! ### Every reaction and every step -/

theorem settled_settle (was : State) : Settled (settle was s) := by
  obtain ⟨_, _, picks⟩ := trainPick_eq (roofPick (takeoverAfter was (drain s)))
  refine ⟨(owed_follows _ was).trans (drain_owed s), fun idle free => ?_, trainPick_empties _⟩
  rw [settle, follows, picks] at idle free ⊢
  exact nextRoof_roofPick _ idle free

theorem settled_powerOn : Settled (powerOn s) where
  owed := rfl
  roof _ _ := (nextRoof_congr State.reset rfl (fun _ => rfl) rfl).trans nextRoof_reset
  train _ := ⟨rfl, rfl, rfl⟩

/-- An ACK deadline that runs leaves the slot filled (R117). -/
theorem slotFree_advance (n : Node) : slotFree (advance s) n = slotFree s n := by
  simp [slotFree, advance, tickNode]

variable {s}

theorem settled_advance (h : Settled s) : Settled (advance s) where
  owed := h.owed
  roof idle free := (nextRoof_congr s (t := advance s) rfl (slotFree_advance s) rfl).trans (h.roof idle free)
  train := h.train

theorem Settled.pending (h : Settled s) (l : List Instr) : Settled { s with pending := l } := ⟨h.owed, h.roof, h.train⟩

theorem exec_settled {c : Instr} {t : State} (h : Settled s) (e : exec c s = .next t) : Settled t := by
  cases c with
  | powerOnReset => cases e; exact settled_powerOn s
  | roofFrameIgnored => cases e; exact h
  | trainFrameIgnored => cases e; exact ⟨h.owed, h.roof, h.train⟩
  | _ => cases e; exact settled_settle _ s

end

/-- Settles O7: the picks at the end of a reaction leave nothing that they may take, and what has no reaction (the clock, an ignored
frame, power-on reset) leaves the transmitters nothing new. -/
theorem transmittersNeverWait : Obligations.TransmittersNeverWait := by
  intro s t h e
  unfold step at e
  split at e
  · unfold idle at e
    split at e
    · cases e; exact settled_advance h
    · exact exec_settled h e
  · exact exec_settled (h.pending _) e

end Sys2Proof.Machine

namespace Sys2Proof.Machine

/-! ## What the roof transmitter picks (R129 to R131) -/

section
variable {s : State}

theorem slotFree_iff (n : Node) : slotFree s n = true ↔ s.nodes[n].slot = none := Option.isNone_iff_eq_none

theorem not_slotFree {n : Node} (h : s.nodes[n].slot ≠ none) : ¬ slotFree s n = true := mt (slotFree_iff n).1 h

/-! ### The class A search -/

theorem classAFirst_some {p : AFrame → Bool} {n : Node} {f : AFrame} (here : s.roof.classA[n] = some f) (hp : p f = true)
    (first : ∀ m : Node, m < n → ∀ g, s.roof.classA[m] = some g → p g = false) : classAFirst s p = some (n, f) := by
  rw [classAFirst, List.findSome?_eq_some_iff]
  refine ⟨(List.finRange 63).take n, n, (List.finRange 63).drop (n + 1), ?_, by simp [here, hp], fun m hm => ?_⟩
  · conv_lhs => rw [← List.take_append_drop n.val (List.finRange 63), List.drop_eq_getElem_cons (by simp)]
    simp
  · obtain ⟨i, hi, rfl⟩ := List.mem_take_iff_getElem.1 hm
    have below := first (List.finRange 63)[i] (by simp [Fin.lt_def]; omega)
    split
    case h_1 g held => rw [below g held]; rfl
    case h_2 => rfl

theorem classAFirst_none {p : AFrame → Bool} (h : ∀ m : Node, ∀ g, s.roof.classA[m] = some g → p g = false) :
    classAFirst s p = none := by
  rw [classAFirst, List.findSome?_eq_none_iff]
  intro m _
  split
  case h_1 g held => rw [h m g held]; rfl
  case h_2 => rfl

/-- LOWER and OPEN come before every SUSTAIN (R129 step 1). -/
theorem pickA_urgent {n : Node} {f : AFrame} (here : s.roof.classA[n] = some f) (urgent : f ≠ .sustain)
    (first : ∀ m : Node, m < n → s.roof.classA[m] = none ∨ s.roof.classA[m] = some .sustain) : pickA s = some (n, f) := by
  rw [pickA, classAFirst_some here (by simpa using urgent) fun m below g held => ?_]
  have := first m below
  simp_all

/-- With SUSTAIN alone in the slots, the lowest address is served (R129 step 2). -/
theorem pickA_sustain {n : Node} (here : s.roof.classA[n] = some .sustain)
    (calm : ∀ m : Node, s.roof.classA[m] = none ∨ s.roof.classA[m] = some .sustain)
    (first : ∀ m : Node, m < n → s.roof.classA[m] = none) : pickA s = some (n, .sustain) := by
  have none_urgent : classAFirst s (fun f => f ≠ .sustain) = none := classAFirst_none fun m g held => by
    have := calm m
    simp_all
  rw [pickA, none_urgent]
  exact classAFirst_some here rfl fun m below g held => by rw [first m below] at held; cases held

theorem pickA_none (h : ∀ m : Node, s.roof.classA[m] = none) : pickA s = none := by
  have nothing (p : AFrame → Bool) : classAFirst s p = none :=
    classAFirst_none fun m g held => by rw [h m] at held; cases held
  rw [pickA, nothing]
  exact nothing _

/-! ### The class B and class C searches -/

theorem headPickable_iff : headPickable s = true ↔ ∃ e l, s.roof.classC = e :: l ∧ s.nodes[e.node].slot = none := by
  unfold headPickable
  split
  case h_1 e => simp [e]
  case h_2 e l c => rw [slotFree_iff]; simp [c]

theorem pickB_some {a b : List BEntry} {e : BEntry} (queue : s.roof.classB = a ++ e :: b) (ready : s.nodes[e.node].slot = none)
    (first : ∀ y ∈ a, s.nodes[y.node].slot ≠ none) : pickB s = some e :=
  List.find?_eq_some_iff_append.2 ⟨(slotFree_iff _).2 ready, a, b, queue, fun y hy => by simpa using not_slotFree (first y hy)⟩

theorem pickB_none (h : ∀ y ∈ s.roof.classB, s.nodes[y.node].slot ≠ none) : pickB s = none :=
  List.find?_eq_none.2 fun y hy => not_slotFree (h y hy)

theorem pickC_some {a b : List CEntry} {e : CEntry} (queue : s.roof.classC = a ++ e :: b) (ready : s.nodes[e.node].slot = none)
    (first : ∀ y ∈ a, s.nodes[y.node].slot ≠ none) : pickC s = some e :=
  List.find?_eq_some_iff_append.2 ⟨(slotFree_iff _).2 ready, a, b, queue, fun y hy => by simpa using not_slotFree (first y hy)⟩

theorem pickC_none (h : ∀ y ∈ s.roof.classC, s.nodes[y.node].slot ≠ none) : pickC s = none :=
  List.find?_eq_none.2 fun y hy => not_slotFree (h y hy)

/-- The entry picked is the first of its value in the queue, since an equal one has the same node. -/
theorem erase_pickB {a b : List BEntry} {e : BEntry} (ready : s.nodes[e.node].slot = none)
    (first : ∀ y ∈ a, s.nodes[y.node].slot ≠ none) : (a ++ e :: b).erase e = a ++ b := by
  rw [List.erase_append_right _ fun member => first e member ready, List.erase_cons_head]

theorem dropPick_eq {a b : List CEntry} {e : CEntry} (ready : s.nodes[e.node].slot = none)
    (first : ∀ y ∈ a, s.nodes[y.node].slot ≠ none) : dropPick s (a ++ e :: b) = a ++ b := by
  rw [dropPick, List.eraseP_append_right _ fun y hy => not_slotFree (first y hy),
    List.eraseP_cons_of_pos (p := fun x : CEntry => slotFree s x.node) ((slotFree_iff _).2 ready)]

theorem headPickable_append {a b : List CEntry} {e : CEntry} (queue : s.roof.classC = a ++ e :: b)
    (ready : s.nodes[e.node].slot = none) (first : ∀ y ∈ a, s.nodes[y.node].slot ≠ none) : headPickable s = true ↔ a = [] := by
  cases a with
  | nil => exact iff_of_true (headPickable_iff.2 ⟨e, b, queue, ready⟩) rfl
  | cons y a =>
    refine iff_of_false (fun head => ?_) nofun
    obtain ⟨x, l, split, free⟩ := headPickable_iff.1 head
    rw [queue] at split
    cases split
    exact first y (.head _) free

/-! ### The choice -/

theorem nextRoof_classA {n : Node} {f : AFrame} (h : pickA s = some (n, f)) : nextRoof s = some (.classA n f) := by
  rw [nextRoof, h]

theorem nextRoof_classB (noA : pickA s = none) (notOwed : ¬ (headPickable s ∧ s.settings.txBypass ≤ s.roof.bypass)) {e : BEntry}
    (h : pickB s = some e) : nextRoof s = some (.classB e) := by
  simp only [nextRoof, noA, if_neg notOwed, h]

/-- With no class A frame, class C is served when its first entry is owed or class B has nothing (R129 steps 3 and 5). -/
theorem nextRoof_classC (noA : pickA s = none)
    (turn : (headPickable s ∧ s.settings.txBypass ≤ s.roof.bypass) ∨ pickB s = none) :
    nextRoof s = (pickC s).map .classC := by
  rcases turn with owed | noB
  · simp only [nextRoof, noA, if_pos owed]
  · simp only [nextRoof, noA, noB, ite_self]

/-- What has departed is told to no one unless it is the CLOSE (R131). -/
theorem tellDeparture_quiet {e : BEntry} (h : e.cmd ≠ .close) (s : State) : tellDeparture (.classB e) s = s := by
  rw [tellDeparture]
  cases c : e.cmd with
  | close => exact absurd c h
  | _ => rfl

theorem tellDeparture_close {e : BEntry} (h : e.cmd = .close) (s : State) : tellDeparture (.classB e) s = closeDeparted s := by
  rw [tellDeparture, h]

/-- The departure of a CLOSE with the breaker's class A slot free (R62, R133). -/
theorem closeDeparted_eq {k : Node} (breaker : nodeOf? s .breaker = some k) (free : s.roof.classA[k] = none) : closeDeparted s = { s with
    co := { s.co with close := .transmitted, sustain := some 100 },
    roof := { s.roof with classA := s.roof.classA.set k (some .sustain) } } := by
  have slot : upd s.roof.classA k (slotAfter .sustain) = s.roof.classA.set k (some .sustain) := by rw [upd, free]; rfl
  rw [closeDeparted, placeABreaker_eq (b := k) (by exact breaker), ← slot]
  rfl

theorem sendRoof_classB {a b : List BEntry} {e : BEntry} (queue : s.roof.classB = a ++ e :: b) (ready : s.nodes[e.node].slot = none)
    (first : ∀ y ∈ a, s.nodes[y.node].slot ≠ none) : sendRoof (.classB e) s = tellDeparture (.classB e) { s with
      roof := { s.roof with
        classB := a ++ b, bypass := if headPickable s then satSucc 15 s.roof.bypass else s.roof.bypass,
        tx := some { item := .classB e, seq := s.nodes[e.node].seq } } } := by
  simp only [sendRoof, leaveQueue, queue, erase_pickB ready first, State.modRoof, frameSeq]

theorem sendRoof_classC {a b : List CEntry} {e : CEntry} (queue : s.roof.classC = a ++ e :: b) (ready : s.nodes[e.node].slot = none)
    (first : ∀ y ∈ a, s.nodes[y.node].slot ≠ none) : sendRoof (.classC e) s = { s with
      roof := { s.roof with
        classC := a ++ b, bypass := if a = [] then 0 else s.roof.bypass,
        tx := some { item := .classC e, seq := s.nodes[e.node].seq } } } := by
  simp only [sendRoof, tellDeparture, leaveQueue, queue, dropPick_eq ready first, headPickable_append queue ready first,
    State.modRoof, frameSeq]

end

/-- Settles O58: one search lemma for each class, and one lemma for what each class's frame leaves behind. -/
theorem roofPickTakesTheFirstThatExists : Obligations.RoofPickTakesTheFirstThatExists := by
  intro s idle free ready goes noA headReady owed
  have owed_iff : (headPickable s ∧ s.settings.txBypass ≤ s.roof.bypass) ↔ owed := and_congr_left fun _ => headPickable_iff
  refine ⟨fun n f here urgent first => ?_, fun n here calm first => ?_, fun empty notOwed a e b queue free' first bypass => ?_,
    fun empty turn a e b queue free' first => ?_, fun empty noB noC => ?_⟩
  · rw [roofPick_some s idle free (nextRoof_classA (pickA_urgent here urgent first))]
    cases f with
    | sustain => exact absurd rfl urgent
    | _ => rfl
  · rw [roofPick_some s idle free (nextRoof_classA (pickA_sustain here calm first))]
    rfl
  · intro counted kept sent
    have count : (if headPickable s then satSucc 15 s.roof.bypass else s.roof.bypass) = bypass := by
      split
      case isTrue head => exact (counted (headPickable_iff.1 head)).symm
      case isFalse head => exact (kept fun h => head (headPickable_iff.2 h)).symm
    have picked : nextRoof s = some (.classB e) :=
      nextRoof_classB (pickA_none empty) (owed_iff.not.2 notOwed) (pickB_some queue free' first)
    rw [roofPick_some s idle free picked, sendRoof_classB queue free' first, count]
    refine ⟨fun other => tellDeparture_quiet other _, fun k close breaker => ?_⟩
    exact (tellDeparture_close close _).trans (closeDeparted_eq breaker (empty k))
  · have turn' := turn.imp owed_iff.2 pickB_none
    have picked : nextRoof s = some (.classC e) := by
      rw [nextRoof_classC (pickA_none empty) turn', pickC_some queue free' first]
      rfl
    rw [roofPick_some s idle free picked, sendRoof_classC queue free' first]
  · refine roofPick_none s ?_
    rw [nextRoof_classC (pickA_none empty) (.inr (pickB_none noB)), pickC_none noC]
    rfl

end Sys2Proof.Machine

namespace Sys2Proof.Machine

/-! ## Edges of the takeover request (R120 to R122) -/

section
variable {s : State}

theorem chanAtRest_iff (c : Chan) : chanAtRest s c = true ↔ s.channels[c].state = .down ∨ s.channels[c].state = .cooldown ∨
    (s.channels[c].state = .locked ∧
      (s.positions[s.roleMap[c]].assigned = none ∨ s.positions[s.roleMap[c]].lastPos = some .down)) := by
  unfold chanAtRest
  cases e : s.channels[c].state with
  | locked =>
    simp only [Bool.or_eq_true, Option.isNone_iff_eq_none, decide_eq_true_eq, reduceCtorEq, true_and, false_or]
    rfl
  | _ => simp

theorem grantConditions_iff : grantConditions s = true ↔ s.takeover.request = true ∧ s.takeover.access = true ∧ s.co.state = .idle ∧
    ∀ c : Chan, s.channels[c].state = .down ∨ s.channels[c].state = .cooldown ∨ (s.channels[c].state = .locked ∧
      (s.positions[s.roleMap[c]].assigned = none ∨ s.positions[s.roleMap[c]].lastPos = some .down)) := by
  simp only [grantConditions, Bool.and_eq_true, decide_eq_true_eq, and_assoc, List.all_eq_true, List.mem_finRange, true_implies,
    chanAtRest_iff]

/-! ### The evaluation -/

/-- An edge of the request is a change of an input of the grant conditions. -/
theorem takeoverAfter_requestEdge {was : State} (edge : was.takeover.request ≠ s.takeover.request) :
    takeoverAfter was s = evaluateTakeover s := if_neg fun same => edge (congrArg GrantView.request same)

theorem evaluateTakeover_grants (free : s.takeover.state = .noTakeover) (met : grantConditions s = true) (idle : s.roof.tx = none) :
    evaluateTakeover s = { s with takeover := { s.takeover with state := .granted } } := by
  rw [evaluateTakeover, free]
  simp only [met, idle, if_true, Option.isNone_none]
  exact grant_eq s (by rw [idle_of_grantConditions s met]; nofun)

theorem evaluateTakeover_pends (free : s.takeover.state = .noTakeover) (met : grantConditions s = true) (busy : s.roof.tx ≠ none) :
    evaluateTakeover s = { s with takeover := { s.takeover with state := .pending } } := by
  rw [evaluateTakeover, free]
  simp only [met, Option.isNone_eq_false_iff.2 (Option.isSome_iff_ne_none.2 busy), if_true]
  rfl

theorem evaluateTakeover_unmet (free : s.takeover.state = .noTakeover) (unmet : ¬ grantConditions s = true) :
    evaluateTakeover s = s := by
  rw [evaluateTakeover, free]
  exact if_neg unmet

/-- Without a request there is nothing to grant. -/
theorem takeoverAfter_noRequest (was : State) (free : s.takeover.state = .noTakeover) (off : s.takeover.request = false) :
    takeoverAfter was s = s := by
  rw [takeoverAfter, evaluateTakeover_unmet free fun met => Bool.false_ne_true (off.symm.trans (grantConditions_iff.1 met).1), ite_self]

/-- An action that leaves the takeover ended and its request off is followed by the picks alone. -/
theorem follows_noRequest (was : State) (free : s.takeover.state = .noTakeover) (off : s.takeover.request = false) :
    follows was s = trainPick (roofPick s) := by
  rw [follows, takeoverAfter_noRequest was free off]

/-! ### The end of a grant -/

/-- A pick that follows a pick finds nothing more to take. -/
theorem roofPick_roofPick (s : State) : roofPick (roofPick s) = roofPick s := by
  by_cases idle : (roofPick s).roof.tx = none
  · cases grant : granted (roofPick s) with
    | true => exact roofPick_granted _ grant
    | false => exact roofPick_none _ (nextRoof_roofPick s idle grant)
  · exact roofPick_busy _ idle

theorem announceAbsent_roofPick (h : ∀ n : Node, s.nodes[n].role = .noRole ∨ s.nodes[n].presence ≠ .absent) :
    announceAbsent (roofPick s) = roofPick s := by
  refine announceAbsent_none ?_
  obtain ⟨_, _, picks⟩ := roofPick_eq s
  rw [picks]
  exact h

/-- In IDLE the gate stays shut, and with no node to ask for its announcement the pick is all that the release does (R122, R135). -/
theorem releaseGrant_eq (idle : s.co.state = .idle) (heard : ∀ n : Node, s.nodes[n].role = .noRole ∨ s.nodes[n].presence ≠ .absent) :
    releaseGrant s = roofPick { s with takeover := { s.takeover with state := .noTakeover, held := false } } := by
  have shut (t : State) (h : t.co.state = .idle) : gateOpen t = false := gateOpen_eq_false (by rw [h]; nofun)
  rw [releaseGrant, gateChange_same (by exact (shut _ (by exact idle)).trans (shut s idle).symm)]
  exact announceAbsent_roofPick heard

end

/-- Settles O52: an asserted request is an edge, so the grant conditions are evaluated; with the request off nothing is granted. -/
theorem takeoverPinAndGrant : Obligations.TakeoverPinAndGrant := by
  intro s owed
  refine ⟨fun free off => ?_, fun leaves => ?_⟩
  · intro met asked
    have conditions : grantConditions { s with takeover := asked } = true ↔ met :=
      grantConditions_iff.trans (and_iff_right (by exact rfl))
    have reacts : exec .takeoverRequestAsserted s =
        .next (trainPick (roofPick (evaluateTakeover { s with takeover := asked }))) := by
      have edge : takeoverAfter s { s with takeover := asked } = _ := takeoverAfter_requestEdge (by rw [off]; nofun)
      rw [← edge]
      exact react_eq (act := requestAsserted) owed
    rw [reacts]
    refine ⟨fun h idle => ?_, fun h busy => ?_, fun h => ?_⟩
    · rw [evaluateTakeover_grants (by exact free) (conditions.2 h) (by exact idle), roofPick_granted _ (by exact rfl)]
    · rw [evaluateTakeover_pends (by exact free) (conditions.2 h) (by exact busy), roofPick_busy _ (by exact busy)]
    · rw [evaluateTakeover_unmet (by exact free) (mt conditions.1 h)]
  · have reacts {v : State} (acts : requestDeasserted s = v) (kept : v.owed = []) (ended : v.takeover.state = .noTakeover)
        (off : v.takeover.request = false) : exec .takeoverRequestDeasserted s = .next (trainPick (roofPick v)) :=
      (react_eq_of acts kept).trans (congrArg _ (follows_noRequest s ended off))
    rcases leaves with free | pending | ⟨grant, idle, heard⟩
    · have acts : requestDeasserted s = { s with takeover := { s.takeover with request := false } } := by
        simp only [requestDeasserted, State.modTakeover, free]
      rw [reacts acts owed free rfl]
      simp [free]
    · have acts : requestDeasserted s = { s with takeover := { s.takeover with request := false, state := .noTakeover } } := by
        simp only [requestDeasserted, State.modTakeover, pending]
      rw [reacts acts owed rfl rfl]
      simp [pending]
    · have acts : requestDeasserted s = roofPick { s with
          takeover := { s.takeover with request := false, state := .noTakeover, held := false } } := by
        simp only [requestDeasserted, State.modTakeover, grant]
        exact releaseGrant_eq idle heard
      rw [reacts acts ((owed_roofPick _).trans owed) (by rw [takeover_roofPick]) (by rw [takeover_roofPick]), roofPick_roofPick]
      simp [grant]

end Sys2Proof.Machine

namespace Sys2Proof.Machine

/-! ## Frames with little or no effect (R105, R106, R154, R181) -/

/-- Only a REPORT of code 5 declares a role and a class (11.2). -/
theorem report?_announce {code : Byte} {p : List Word} {r k : Word} (h : report? code p = some (.announce r k)) : code.toNat = 5 := by
  unfold report? at h
  split at h
  case h_1 => unfold contactFields? at h; split at h <;> cases h
  case h_2 => unfold breakerFields? at h; split at h <;> cases h
  case h_3 => unfold switchFields? at h; split at h <;> cases h
  case h_4 => unfold contactorFields? at h; split at h <;> cases h
  case h_5 five => exact five
  case h_6 => cases h

theorem announced?_report {code : Byte} (other : code.toNat ≠ 5) (p : List Word) :
    (RoofFrame.report code p (report? code p)).announced? = none := by
  unfold RoofFrame.announced?
  split
  case h_1 e => injection e with _ _ holds; exact absurd (report?_announce holds) other
  case h_2 => rfl

section
variable {s : State} {n : Node}

/-- Of an unconfigured or a MISMATCH node the ANNOUNCE alone is looked at (R106 steps 1 and 2). -/
theorem takeRoofFrame_dropped (h : s.nodes[n].role = .noRole ∨ s.nodes[n].presence = .mismatch) {f : RoofFrame}
    (other : f.announced? = none) (q : Byte) : takeRoofFrame n q f s = s := by
  have unconfigured : unconfiguredFrame n f s = s := by rw [unconfiguredFrame, other]
  have mismatched : mismatchFrame n f s = s := by rw [mismatchFrame, other]
  rw [takeRoofFrame, unconfigured, mismatched]
  rcases h with none | mismatch
  · rw [if_pos none]
  · rw [if_pos mismatch, ite_self]

theorem takeRoofFrame_unconfigured (h : s.nodes[n].role = .noRole) (q : Byte) (f : RoofFrame) :
    takeRoofFrame n q f s = unconfiguredFrame n f s := if_pos h

theorem takeRoofFrame_mismatch (role : s.nodes[n].role ≠ .noRole) (h : s.nodes[n].presence = .mismatch) (q : Byte)
    (f : RoofFrame) : takeRoofFrame n q f s = mismatchFrame n f s := (if_neg role).trans (if_pos h)

end

/-- Settles O23: what a check failure queues, what the roster drops at the first two steps of R106, and a report without fields. -/
theorem framesWithLittleOrNoEffect : Obligations.FramesWithLittleOrNoEffect := by
  refine ⟨fun s => ⟨rfl, rfl, fun owed k => ⟨react_eq (act := roofCheckFailed k) owed, react_eq (act := trainCheckFailed k) owed⟩⟩,
    fun s n q c p owed => ⟨fun h => ?_, fun h r k rest e => ?_⟩, fun s n q c p h => ?_⟩
  · have drops {f : RoofFrame} (other : f.announced? = none) : react (takeRoofFrame n q f) s = .next (follows s s) :=
      react_eq_of (takeRoofFrame_dropped h other q) owed
    exact ⟨drops rfl, drops rfl, drops rfl, drops (announced?_report (by decide) p), drops (announced?_report (by decide) p),
      drops (announced?_report (by decide) p), drops (announced?_report (by decide) p)⟩
  · subst e
    exact react_eq_of (takeRoofFrame_unconfigured h q _) owed
  · exact react_eq_of (takeRoofFrame_taken h q (.report c p none)) ((offerMirror_owed ..).trans h.owed)

end Sys2Proof.Machine

namespace Sys2Proof.Machine

/-! ## The outstanding slot (R117, R118) -/

theorem heardNode_slot (s : State) (n : Node) : (heardNode s n).nodes[n].slot = s.nodes[n].slot := by
  simp only [heardNode, upd_self, heardFrom]

section
variable {s : State} {n : Node}

/-- An ACK that is taken, by its effect. -/
theorem exec_ack (h : Taken s n) {q : Byte} {p : List Word} {v : State} (e : ackReport n q p (heardNode s n) = v) (kept : v.owed = [])
    (c : Byte) : exec (.ack n q c p) s = .next (follows s (offerMirror ⟨n, .ack, q, c, p⟩ v)) := by
  subst e
  exact react_eq_of (takeRoofFrame_taken h q (.ack c p)) ((offerMirror_owed ..).trans kept)

/-- An ACK that matches no slot, or without a defined result, is discarded. -/
theorem ackReport_discarded {q : Byte} {p : List Word} (h : ∀ o, s.nodes[n].slot = some o → o.seq ≠ q ∨ ackResult? p = none) :
    ackReport n q p s = s := by
  unfold ackReport
  split
  case h_1 o out slot result =>
    rcases h o slot with other | undefined
    · exact if_neg other
    · rw [undefined] at result; cases result
  case h_2 => rfl

theorem ackReport_matched {q : Byte} {p : List Word} {o : Outstanding} {out : CmdOutcome} (slot : s.nodes[n].slot = some o)
    (result : ackResult? p = some out) (seq : o.seq = q) : ackReport n q p s = deliver o out (p.drop 1) (emptySlot n s) := by
  simp only [ackReport, slot, result, seq, if_true]

theorem ackResult?_none {p : List Word} (h : p = [] ∨ ∀ x d, p = x :: d → x ≠ 17 ∧ x ≠ 18) : ackResult? p = none := by
  cases p with
  | nil => rfl
  | cons x d =>
    obtain ⟨not_accepted, not_rejected⟩ := (h.resolve_left nofun) x d rfl
    rw [ackResult?, if_neg not_accepted, if_neg not_rejected]

end

theorem deliver_train {o : Outstanding} {q : Byte} (h : o.origin = .train q) (out : CmdOutcome) (d : List Word) (s : State) :
    deliver o out d s = addResponse { seq := q, code := o.code, result := out.result, data := d } s := by
  rw [deliver, h]

/-- An ACCEPTED moves no owner (R118). -/
theorem deliverPart_accepted (c : BCmd) (k : Nat) (s : State) : deliverPart c k .accepted s = s := by
  cases c with
  | raise ch => simp [deliverPart, raiseOutcome]
  | close => simp [deliverPart, closeOutcome]
  | switch p => simp [deliverPart, switchOutcome]
  | heatOn z => simp only [deliverPart, ite_self]
  | heatOff z => rfl
  | announceRequest => rfl

/-- The outcomes that a part's own command takes without effect. -/
theorem deliver_part {o : Outstanding} {b : BCmd} {i : Nat} (h : o.origin = .part b i) {out : CmdOutcome}
    (quiet : out = .accepted ∨ b = .announceRequest) (d : List Word) (s : State) : deliver o out d s = s := by
  rw [deliver, h]
  rcases quiet with rfl | rfl
  · exact deliverPart_accepted b i s
  · rfl

/-- Settles O34: an ACK that matches, and the deadline, empty the slot and deliver the outcome; any other ACK is discarded. -/
theorem ackAndDeadlineEmptyTheSlot : Obligations.AckAndDeadlineEmptyTheSlot := by
  refine ⟨fun s n q c p empty => ⟨fun taken => ?_, fun owed => ?_⟩, fun s n q c p o slot => ?_⟩
  · refine exec_ack taken (ackReport_discarded fun o held => ?_) taken.owed c
    rw [heardNode_slot, empty] at held
    cases held
  · refine react_eq_of (act := ackTimeout n) ?_ owed
    rw [ackTimeout, empty]
  · intro answer free
    have heard_slot : (heardNode s n).nodes[n].slot = some o := (heardNode_slot s n).trans slot
    refine ⟨fun x d taken seq payload defined => ?_, fun taken other => ?_, fun owed quiet => ?_⟩
    · subst payload
      have emptied : emptySlot n (heardNode s n) = { s with nodes := upd s.nodes n free } := by
        simp only [emptySlot, heardNode, State.modNode, upd_upd]
        rfl
      have delivers (out : CmdOutcome) (result : ackResult? (x :: d) = some out)
          (quiet : out = .accepted ∨ ∀ b i, o.origin = .part b i → b = .announceRequest) :
          ackReport n q (x :: d) (heardNode s n) = { s with nodes := upd s.nodes n free, train := answer out.result d } := by
        rw [ackReport_matched heard_slot result seq, emptied]
        cases origin : o.origin with
        | train ts => simp only [answer, origin]; exact deliver_train origin out d _
        | part b i => simp only [answer, origin]; exact deliver_part origin (quiet.imp_right fun h => h b i origin) d _
      rcases defined with rfl | ⟨rfl, announce⟩
      · exact exec_ack taken (delivers .accepted rfl (.inl rfl)) taken.owed c
      · exact exec_ack taken (delivers .rejected rfl (.inr announce)) taken.owed c
    · refine exec_ack taken (ackReport_discarded fun o' held => ?_) taken.owed c
      cases heard_slot.symm.trans held
      exact other.imp_right ackResult?_none
    · refine react_eq_of (act := ackTimeout n) ?_ owed
      rw [ackTimeout, slot]
      cases origin : o.origin with
      | train ts => simp only [answer, origin]; exact deliver_train origin .failed [] _
      | part b i => simp only [answer, origin]; exact deliver_part origin (.inr (quiet b i origin)) [] _

end Sys2Proof.Machine

namespace Sys2Proof.Machine

/-! ## Silence of a supervised node (R111, R113) -/

section
variable {s : State} {n : Node}

/-- A contactor whose zone is not HEATING is lost without a failure (R96). -/
theorem contactorLost_idle (h : ∀ z, zoneOfNode? s n = some z → s.zones[z].state ≠ .heating) (kind : ZoneFailure) :
    contactorLost n kind s = s := by
  unfold contactorLost
  split
  case h_1 => rfl
  case h_2 z names => exact if_neg (h z names)

/-- A pantograph unit whose channel is not raised records no fault (R39). -/
theorem pantographPresence_rest (h : ∀ c, chanOfNode? s n = some c → raised s c = false) : pantographPresence n s = s := by
  unfold pantographPresence
  split
  case h_1 => rfl
  case h_2 c names => exact if_neg (by rw [h c names]; nofun)

/-- What the hand-on of SILENT does, where no channel, zone or powered path depends on the node (R113, R174, R175). -/
theorem presenceHandOn_silent (silent : s.nodes[n].presence = .silent) (path : s.nodes[n].role = .breaker → s.co.state ≠ .powered)
    (chan : s.nodes[n].role = .pantographUnit → ∀ c, chanOfNode? s n = some c → raised s c = false)
    (zone : s.nodes[n].role = .heaterContactor → ∀ z, zoneOfNode? s n = some z → s.zones[z].state ≠ .heating) :
    presenceHandOn n s = { s with
      co := if s.nodes[n].role = .breaker then { s.co with lastBreaker := none }
        else if s.nodes[n].role = .changeoverSwitch then { s.co with lastSwitch := none } else s.co } := by
  cases role : s.nodes[n].role with
  | noRole | lineSensor | auxiliary => simp only [presenceHandOn, role]; rfl
  | pantographUnit => simp only [presenceHandOn, role, pantographPresence_rest (chan role)]; rfl
  | heaterContactor =>
    simp only [presenceHandOn, role, contactorPresence, silent, contactorLost_idle (zone role)]
    rfl
  | breaker =>
    simp only [presenceHandOn, role, silent]
    exact if_neg (path role)
  | changeoverSwitch => simp only [presenceHandOn, role, silent]; rfl

theorem nodeSilenced_unsupervised (h : s.nodes[n].presence ≠ .present ∨ s.nodes[n].period = 0) : nodeSilenced n s = s :=
  if_neg fun runs => by
    obtain ⟨present, positive⟩ := of_decide_eq_true runs
    rcases h with absent | zero
    · exact absent present
    · omega

theorem nodeSilenced_supervised (present : s.nodes[n].presence = .present) (period : 0 < s.nodes[n].period) :
    nodeSilenced n s = setPresence n .silent
      (queueNotice (.nodeSilent n s.nodes[n].role s.nodes[n].period s.nodes[n].age) s) :=
  if_pos (decide_eq_true ⟨present, period⟩)

end

/-- Settles O35: a node that is not supervised stays as it is, and one that is becomes SILENT, with what its role's owner does. -/
theorem silentNodeIsReported : Obligations.SilentNodeIsReported := by
  intro s n owed
  refine ⟨fun h => react_eq_of (nodeSilenced_unsupervised h) owed, fun present period path chan zone => ?_⟩
  refine react_eq_of ((nodeSilenced_supervised present period).trans ?_) owed
  let silent : State := (queueNotice (.nodeSilent n s.nodes[n].role s.nodes[n].period s.nodes[n].age) s).modNode n
    fun r => { r with presence := .silent }
  have record : silent.nodes[n] = { s.nodes[n] with presence := .silent } := upd_self ..
  have role : silent.nodes[n].role = s.nodes[n].role := by rw [record]
  have handOn := presenceHandOn_silent (s := silent) (n := n) (congrArg NodeRec.presence record) (by rw [role]; exact path)
    (by rw [role]; exact chan) (by rw [role]; exact zone)
  rw [role] at handOn
  exact handOn

end Sys2Proof.Machine

namespace Sys2Proof.Machine

/-! ## Loads and clears of a node's configuration (R108, R109, R115) -/

section
variable {s : State} {n : Node}

theorem named_iff : named s n = true ↔ ¬ (posNaming? s n = none ∧ zoneOfNode? s n = none) := by
  rw [named, Bool.or_eq_true, Option.isSome_iff_ne_none, Option.isSome_iff_ne_none, not_and_or]

/-- The roles that one node at most may hold (R107). -/
theorem single_iff (role : Role) : role.single = true ↔ role = .lineSensor ∨ role = .breaker ∨ role = .changeoverSwitch := by
  cases role <;> simp [Role.single]

/-- The search of the other nodes for the role. -/
theorem otherNode_iff (role : Role) : ((List.finRange 63).any fun m => m ≠ n ∧ s.nodes[m].role = role) = true ↔
    ∃ m : Node, m ≠ n ∧ s.nodes[m].role = role := by
  simp only [List.any_eq_true, List.mem_finRange, true_and, decide_eq_true_eq]

/-- A role word is the code of the role that it names (11.4). -/
theorem code_of_role? {w : Word} {role : Role} (h : role? w = some role) : role.code = w := by
  have of_toNat {k : Nat} (number : w.toNat = k) : BitVec.ofNat 16 k = w := by rw [← number, BitVec.ofNat_toNat, BitVec.setWidth_eq]
  unfold role? at h
  split at h
  case h_8 => cases h
  all_goals
    rename_i number
    cases h
    exact of_toNat number

theorem role?_of_loadableRole? {w : Word} {role : Role} (h : loadableRole? w = some role) : role? w = some role := by
  unfold loadableRole? at h
  split at h
  · cases h
  · exact h

theorem clamp_zero (b v : Nat) : clamp 0 b v = min b v := Nat.zero_max _

/-! ### Admission -/

theorem admitNode_named {role : Role} (other : s.nodes[n].role ≠ role) (h : named s n = true) (period : Nat) :
    admitNode n role period s = refuse s .refusedState := if_pos ⟨other, h⟩

theorem admitNode_second {role : Role} (free : ¬ (s.nodes[n].role ≠ role ∧ named s n = true)) (single : role.single = true)
    (held : ∃ m : Node, m ≠ n ∧ s.nodes[m].role = role) (period : Nat) : admitNode n role period s = refuse s .duplicate :=
  (if_neg free).trans (if_pos ⟨single, (otherNode_iff role).2 held⟩)

theorem admitNode_stored {role : Role} (free : ¬ (s.nodes[n].role ≠ role ∧ named s n = true))
    (sole : ¬ (role.single = true ∧ ∃ m : Node, m ≠ n ∧ s.nodes[m].role = role)) (period : Nat) : admitNode n role period s =
      accept (storeNode n role (min 5000 period) s) [word (number n), role.code, word (min 5000 period)] := by
  rw [← clamp_zero]
  exact (if_neg free).trans (if_neg fun second => sole (second.imp_right (otherNode_iff role).1))

/-! ### The stored node -/

/-- A load that keeps the presence hands nothing on. -/
theorem storeNode_eq {role : Role} {period : Nat} (same : (loadedNode role period s.nodes[n]).presence = s.nodes[n].presence) :
    storeNode n role period s = if s.nodes[n].presence = .absent then placeAnnounce n (s.modNode n (loadedNode role period))
      else s.modNode n (loadedNode role period) := by
  have kept : (s.modNode n (loadedNode role period)).nodes[n].presence = s.nodes[n].presence := by
    rw [State.modNode_nodes, upd_self, same]
  simp only [storeNode, loadPresence, kept, if_true]

/-- A new role for an ABSENT node: its declared values are forgotten, and its announcement is asked for (R109, R115). -/
theorem storeNode_newRole {role : Role} (other : s.nodes[n].role ≠ role) (absent : s.nodes[n].presence = .absent) (period : Nat) :
    storeNode n role period s = placeAnnounce n { s with nodes := upd s.nodes n fun r =>
      { r with role := role, period := period, declRole := none, declClass := none, ageRuns := false } } := by
  have loaded : loadedNode role period s.nodes[n] =
      { s.nodes[n] with role := role, period := period, declRole := none, declClass := none, ageRuns := false } := by
    rw [loadedNode, if_neg other, ← absent]
  rw [storeNode_eq (by rw [loaded]), if_pos absent]
  have nodes : upd s.nodes n (loadedNode role period) = upd s.nodes n fun r =>
      { r with role := role, period := period, declRole := none, declClass := none, ageRuns := false } := upd_congr loaded
  rw [State.modNode, nodes]

/-- A reload of its role for a node that has been heard from (R109). -/
theorem storeNode_reload {role : Role} (same : s.nodes[n].role = role)
    (heard : s.nodes[n].presence = .present ∨ s.nodes[n].presence = .silent) (period : Nat) :
    storeNode n role period s = { s with nodes := upd s.nodes n fun r => { r with period := period } } := by
  have loaded : loadedNode role period s.nodes[n] = { s.nodes[n] with period := period } := by
    rw [loadedNode, if_pos same, if_neg]
    rcases heard with e | e <;> rw [e] <;> nofun
  have not_absent : s.nodes[n].presence ≠ .absent := by rcases heard with e | e <;> rw [e] <;> nofun
  rw [storeNode_eq (by rw [loaded]), if_neg not_absent]
  have nodes : upd s.nodes n (loadedNode role period) = upd s.nodes n fun r => { r with period := period } := upd_congr loaded
  rw [State.modNode, nodes]

/-- The three things that hold back an ANNOUNCE-REQUEST (R115, R126). -/
theorem placeAnnounce_noRoom (h : ¬ (granted s = false ∧ (∀ e ∈ s.roof.classB, e.node ≠ n) ∧ s.roof.classB.length < 16)) :
    placeAnnounce n s = s := by
  refine if_pos ?_
  by_contra none
  obtain ⟨free, unqueued, room⟩ : granted s ≠ true ∧ _ ∧ _ := by simpa only [not_or] using none
  refine h ⟨eq_false_of_ne_true free, fun e member at_n => unqueued (List.any_eq_true.2 ⟨e, member, decide_eq_true at_n⟩), ?_⟩
  exact Nat.not_le.1 room

/-! ### The requests -/

theorem loadNode_eq {nw rw : Word} {role : Role} (thaw : frozen s = false) (node : nw.toNat = number n)
    (loadable : loadableRole? rw = some role) (period : Word) (rest : List Word) :
    loadNode (nw :: rw :: period :: rest) s = admitNode n role period.toNat s := by
  simp only [loadNode, thaw, node, numbered?_number, loadable, Bool.false_eq_true, if_false]

theorem clearNode_eq {nw : Word} (thaw : frozen s = false) (node : nw.toNat = number n) (rest : List Word) :
    clearNode (nw :: rest) s = if s.nodes[n].role ≠ .noRole ∧ named s n then refuse s .refusedState
      else accept (s.modNode n clearedNode) [] := by
  simp only [clearNode, thaw, node, numbered?_number, Bool.false_eq_true, if_false]

end

/-- Settles O43: the admission of R108 in its order, and what an accepted load or clear stores. -/
theorem nodeLoadAndClear : Obligations.NodeLoadAndClear := by
  intro s q n nw rest decides thaw node free
  have thaw' : frozen (trainFrameTaken s) = false := thaw
  have named_iff : named (trainFrameTaken s) n = true ↔ ¬ free := named_iff
  refine ⟨fun role rw period loadable => ?_, fun unnamed => ?_, fun configured names => ?_⟩
  · intro load ms second ok
    have loads : loadNode (nw :: rw :: period :: rest) (trainFrameTaken s) = admitNode n role period.toNat (trainFrameTaken s) :=
      loadNode_eq thaw' node loadable period rest
    have code : role.code = rw := code_of_role? (role?_of_loadableRole? loadable)
    have second_iff : second ↔ role.single = true ∧ ∃ m : Node, m ≠ n ∧ s.nodes[m].role = role :=
      and_congr_left fun _ => (single_iff role).symm
    have refuses {r : Result} (e : admitNode n role period.toNat (trainFrameTaken s) = refuse (trainFrameTaken s) r)
        (here : r ≠ .held) : exec load s = .next (follows s { s with train := answered s q 2 r [] }) :=
      request_refused decides (loads.trans e) here q 2
    have stores {v : State} (may : ¬ (s.nodes[n].role ≠ role ∧ named (trainFrameTaken s) n = true)) (sole : ¬ second)
        (e : storeNode n role ms (trainFrameTaken s) = v) (kept : v.owed = []) : exec load s =
          .next (follows s (addResponse { seq := q, code := 2, result := .ok, data := [word (number n), rw, word ms] } v)) := by
      have answer : admitNode n role period.toNat (trainFrameTaken s) = accept v [word (number n), rw, word ms] := by
        rw [← e, ← code]
        exact admitNode_stored (s := trainFrameTaken s) may (mt second_iff.2 sole) _
      exact request_answered (r := .ok) decides (loads.trans answer) nofun kept q 2
    refine ⟨fun other names => ?_, fun may held => ?_, fun other unnamed sole absent => ?_, fun same sole heard => ?_⟩
    · exact refuses (admitNode_named (s := trainFrameTaken s) other (named_iff.2 names) _) nofun
    · obtain ⟨single, held⟩ := second_iff.1 held
      refine refuses (admitNode_second (s := trainFrameTaken s) (fun h => ?_) single held _) nofun
      exact may.elim h.1 (named_iff.1 h.2)
    · intro loaded room
      have stored := storeNode_newRole (s := trainFrameTaken s) other absent ms
      have may : ¬ (s.nodes[n].role ≠ role ∧ named (trainFrameTaken s) n = true) := fun h => named_iff.1 h.2 unnamed
      refine ⟨fun h => ?_, fun h => ?_⟩
      · have places := placeAnnounce_room (s := { trainFrameTaken s with nodes := loaded }) (n := n) h.1 h.2.1 h.2.2
        have answer := stores may sole (stored.trans places) decides.owed
        exact answer
      · have keeps := placeAnnounce_noRoom (s := { trainFrameTaken s with nodes := loaded }) (n := n) h
        have answer := stores may sole (stored.trans keeps) decides.owed
        exact answer
    · have stored := storeNode_reload (s := trainFrameTaken s) same heard ms
      have answer := stores (fun h => h.1 same) sole stored decides.owed
      exact answer
  · have may : ¬ (s.nodes[n].role ≠ .noRole ∧ named (trainFrameTaken s) n = true) := fun h => named_iff.1 h.2 unnamed
    have clears := (clearNode_eq thaw' node rest).trans (if_neg may)
    exact request_answered (r := .ok) decides clears nofun decides.owed q 4
  · have refuses := (clearNode_eq thaw' node rest).trans (if_pos ⟨configured, named_iff.2 names⟩)
    exact request_refused (r := .refusedState) decides refuses nofun q 4

end Sys2Proof.Machine

namespace Sys2Proof.Machine

/-! ## ANNOUNCE (R110, R112) -/

/-- A node's record with the words that an ANNOUNCE declares. -/
def declaredRecord (r k : Word) (x : NodeRec) : NodeRec := { x with declRole := some r, declClass := some k }

/-- The state in which an ANNOUNCE of node n has been recorded. -/
def declaredNode (r k : Word) (n : Node) (s : State) : State := { s with nodes := upd s.nodes n (declaredRecord r k) }

/-- The words of an ANNOUNCE are those of the node's configuration (R110; log 41). -/
def DeclarationFits (s : State) (n : Node) (r k : Word) : Prop :=
  role? r = some s.nodes[n].role ∧ k.toNat ≤ 4 ∧
    (s.nodes[n].role = .pantographUnit → ∀ c, judgingClass? s n = some c → k.toNat = number c)

theorem judgingClass?_some {s : State} {n : Node} {c : Cls} : judgingClass? s n = some c ↔
    ∃ p a, posNaming? s n = some p ∧ s.positions[p].assigned = some a ∧ a.cls = c := by
  simp only [judgingClass?, Option.bind_eq_some_iff, Option.map_eq_some_iff, exists_and_left]

theorem declaredNode_record (r k : Word) (n : Node) (s : State) : (declaredNode r k n s).nodes[n] = declaredRecord r k s.nodes[n] :=
  upd_self ..

/-- The test of R110 on the words just declared. -/
theorem declarationMatches_declaredNode {s : State} {n : Node} {r k : Word} :
    declarationMatches (declaredNode r k n s) n = true ↔ DeclarationFits s n r k := by
  have judging : judgingClass? (declaredNode r k n s) n = judgingClass? s n := rfl
  simp only [declarationMatches, declaredNode_record, declaredRecord, judging, classInRange, Bool.and_eq_true, decide_eq_true_eq,
    and_assoc]
  refine and_congr_right fun _ => and_congr_right fun _ => ?_
  by_cases pan : s.nodes[n].role = .pantographUnit
  · rw [if_pos pan]
    cases judgingClass? s n with
    | none => exact iff_of_true rfl nofun
    | some c => simp only [decide_eq_true_eq, Option.map_some, Option.some.injEq, forall_eq', pan, true_implies]
  · rw [if_neg pan]
    exact iff_of_true rfl fun h => absurd h pan

section
variable {s : State} {n : Node}

/-! ### Entry to PRESENT and to MISMATCH -/

/-- A presence that becomes PRESENT moves nothing but a heater (R91, R113). -/
theorem presenceHandOn_present (present : s.nodes[n].presence = .present) (h : s.nodes[n].role ≠ .heaterContactor) :
    presenceHandOn n s = s := by
  unfold presenceHandOn
  cases role : s.nodes[n].role with
  | noRole | lineSensor | auxiliary => rfl
  | pantographUnit =>
    simp only [pantographPresence, present, ite_self]
    split <;> rfl
  | heaterContactor => exact absurd role h
  | breaker | changeoverSwitch => simp only [present]

theorem becomePresent_eq (h : s.nodes[n].role ≠ .heaterContactor) : becomePresent n s = { s with
    nodes := upd s.nodes n fun x => { x with age := 0, ageRuns := true, presence := .present } } := by
  have two : (s.modNode n fun x => { x with age := 0, ageRuns := true }).modNode n (fun x => { x with presence := .present }) =
      { s with nodes := upd s.nodes n fun x => { x with age := 0, ageRuns := true, presence := .present } } := by
    simp only [State.modNode, upd_upd]
    rfl
  rw [becomePresent, setPresence, two]
  refine presenceHandOn_present ?_ ?_
  · rw [upd_self]
  · rw [upd_self]; exact h

/-- Nothing is removed where nothing is queued for the node (R112, R128). -/
theorem removeForMismatch_none (noB : ∀ e ∈ s.roof.classB, e.node ≠ n) (noC : ∀ e ∈ s.roof.classC, e.node ≠ n) :
    removeForMismatch n s = s := by
  have goneB : (s.roof.classB.filter fun e => e.node = n) = [] := by simpa using noB
  have goneC : (s.roof.classC.filter fun e => e.node = n) = [] := by simpa using noC
  have keptB : (s.roof.classB.filter fun e => e.node ≠ n) = s.roof.classB := by simpa using noB
  have keptC : (s.roof.classC.filter fun e => e.node ≠ n) = s.roof.classC := by simpa using noC
  simp only [removeForMismatch, goneB, goneC, keptB, keptC, List.foldl_nil, State.modRoof]
  split
  case h_1 => rfl
  case h_2 e l queue =>
    have other : e.node ≠ n := noC e (by rw [queue]; exact .head _)
    simp only [other]
    rfl

/-- Entry to MISMATCH of a node that no owner watches and nothing is queued for. -/
theorem enterMismatch_eq (h : s.nodes[n].role = .auxiliary ∨ s.nodes[n].role = .lineSensor) (noB : ∀ e ∈ s.roof.classB, e.node ≠ n)
    (noC : ∀ e ∈ s.roof.classC, e.node ≠ n) : enterMismatch n s = { s with
      nodes := upd s.nodes n fun x => { x with presence := .mismatch },
      train := noteNotice (.nodeMismatch n s.nodes[n].role s.nodes[n].declRole s.nodes[n].declClass (judgingClass? s n)) s.train } := by
  have handOn (t : State) (same : t.nodes[n].role = s.nodes[n].role) : presenceHandOn n t = t := by
    unfold presenceHandOn
    rcases h with e | e <;> rw [same, e]
  rw [enterMismatch, setPresence, handOn _ (by rw [State.modNode_nodes, upd_self]; rfl)]
  exact removeForMismatch_none noB noC

/-! ### The judgement -/

variable {r k : Word}

theorem judge_fresh (h : declarationMatches s n = true) (fresh : s.nodes[n].presence = .absent ∨ s.nodes[n].presence = .mismatch) :
    judge n true s = becomePresent n s := by
  rcases fresh with e | e
  · rw [judge, if_pos h, e, if_pos rfl]
  · rw [judge, if_pos h, e]

theorem judge_again (h : declarationMatches s n = true) (present : s.nodes[n].presence = .present) : judge n true s = s := by
  rw [judge, if_pos h, present]

theorem declaredNode_presence : (declaredNode r k n s).nodes[n].presence = s.nodes[n].presence := by
  rw [declaredNode_record]; rfl

theorem declaredNode_role : (declaredNode r k n s).nodes[n].role = s.nodes[n].role := by
  rw [declaredNode_record]; rfl

/-- An ANNOUNCE that fits, of a node that was not heard from as what it is. -/
theorem announceReport_fresh (fits : DeclarationFits s n r k) (h : s.nodes[n].role ≠ .heaterContactor)
    (fresh : s.nodes[n].presence = .absent ∨ s.nodes[n].presence = .mismatch) : announceReport n r k s = { s with
      nodes := upd s.nodes n fun x => { declaredRecord r k x with presence := .present, age := 0, ageRuns := true } } := by
  have judged : announceReport n r k s = becomePresent n (declaredNode r k n s) :=
    judge_fresh (declarationMatches_declaredNode.2 fits) (declaredNode_presence.symm ▸ fresh)
  rw [judged, becomePresent_eq (by rw [declaredNode_role]; exact h), declaredNode, upd_upd]
  rfl

/-- An ANNOUNCE that fits, of a PRESENT node. -/
theorem announceReport_again (fits : DeclarationFits s n r k) (present : s.nodes[n].presence = .present) :
    announceReport n r k s = declaredNode r k n s :=
  judge_again (declarationMatches_declaredNode.2 fits) (declaredNode_presence.trans present)

/-- An ANNOUNCE that does not fit changes the declared words alone of a node that was MISMATCH. -/
theorem announceReport_stays (differs : ¬ DeclarationFits s n r k) (mismatch : s.nodes[n].presence = .mismatch) :
    announceReport n r k s = declaredNode r k n s :=
  (if_neg (mt declarationMatches_declaredNode.1 differs)).trans (if_pos (declaredNode_presence.trans mismatch))

theorem announceReport_differs (differs : ¬ DeclarationFits s n r k) (other : s.nodes[n].presence ≠ .mismatch) :
    announceReport n r k s = enterMismatch n (declaredNode r k n s) := by
  have kept : (declaredNode r k n s).nodes[n].presence ≠ .mismatch := by rw [declaredNode_presence]; exact other
  exact (if_neg (mt declarationMatches_declaredNode.1 differs)).trans (if_neg kept)

/-! ### The frame -/

/-- An ANNOUNCE of a MISMATCH node, by its judgement. -/
theorem exec_announce_mismatch {v : State} (owed : v.owed = []) (role : s.nodes[n].role ≠ .noRole)
    (mismatch : s.nodes[n].presence = .mismatch) (e : announceReport n r k s = v) (q : Byte) (rest : List Word) :
    exec (.announce n q (r :: k :: rest)) s = .next (follows s v) :=
  react_eq_of ((takeRoofFrame_mismatch role mismatch q _).trans e) owed

/-- An ANNOUNCE that is taken, by its judgement. -/
theorem exec_announce_taken {v : State} (h : Taken s n) (owed : v.owed = []) (e : announceReport n r k (heardNode s n) = v) (q : Byte)
    (rest : List Word) :
    exec (.announce n q (r :: k :: rest)) s = .next (follows s (offerMirror ⟨n, .report, q, 5, r :: k :: rest⟩ v)) := by
  subst e
  exact react_eq_of (takeReport_taken h (r := .announce r k) rfl) ((offerMirror_owed ..).trans owed)

theorem declarationFits_heardNode : DeclarationFits (heardNode s n) n r k ↔ DeclarationFits s n r k := by
  rw [DeclarationFits, DeclarationFits, heardNode_role]
  rfl

theorem heardNode_presence (other : s.nodes[n].presence ≠ .mismatch) : (heardNode s n).nodes[n].presence =
    if s.nodes[n].presence = .absent then .absent else .present := by
  have heard : (heardNode s n).nodes[n] = heardFrom s.nodes[n] := upd_self ..
  rw [heard, heardFrom]
  cases e : s.nodes[n].presence with
  | mismatch => exact absurd e other
  | _ => rfl

/-- An ANNOUNCE that fits, of a node that is not MISMATCH: its being heard again, and its becoming PRESENT, come to the same. -/
theorem announceReport_heardNode (fits : DeclarationFits s n r k) (h : s.nodes[n].role ≠ .heaterContactor)
    (other : s.nodes[n].presence ≠ .mismatch) : announceReport n r k (heardNode s n) = { s with
      nodes := upd s.nodes n fun x => { declaredRecord r k x with presence := .present, age := 0, ageRuns := true } } := by
  have fits' := declarationFits_heardNode.2 fits
  have presence := heardNode_presence other
  by_cases absent : s.nodes[n].presence = .absent
  · rw [if_pos absent] at presence
    rw [announceReport_fresh fits' (by rw [heardNode_role]; exact h) (.inl presence), heardNode, upd_upd]
    rfl
  · rw [if_neg absent] at presence
    have record : declaredRecord r k (heardFrom s.nodes[n]) =
        { declaredRecord r k s.nodes[n] with presence := .present, age := 0, ageRuns := true } := by
      have heard : (heardFrom s.nodes[n]).presence = .present := by rwa [heardNode, upd_self] at presence
      rw [← heard]
      rfl
    have nodes : upd s.nodes n (declaredRecord r k ∘ heardFrom) = upd s.nodes n fun x =>
        { declaredRecord r k x with presence := .present, age := 0, ageRuns := true } := upd_congr record
    rw [announceReport_again fits' presence, declaredNode, heardNode, upd_upd, nodes]

/-- An ANNOUNCE that does not fit, of an AUXILIARY or LINE-SENSOR that is not MISMATCH (R112). -/
theorem announceReport_misfit (misfit : ¬ DeclarationFits s n r k)
    (role : s.nodes[n].role = .auxiliary ∨ s.nodes[n].role = .lineSensor) (other : s.nodes[n].presence ≠ .mismatch)
    (noB : ∀ e ∈ s.roof.classB, e.node ≠ n) (noC : ∀ e ∈ s.roof.classC, e.node ≠ n) : announceReport n r k (heardNode s n) = { s with
      nodes := s.nodes.set n { declaredRecord r k s.nodes[n] with presence := .mismatch, age := 0, ageRuns := true },
      train := noteNotice (.nodeMismatch n s.nodes[n].role (some r) (some k) (judgingClass? s n)) s.train } := by
  have record : (declaredNode r k n (heardNode s n)).nodes[n] = declaredRecord r k (heardFrom s.nodes[n]) := by
    rw [declaredNode_record, heardNode, upd_self]
  have heard : (heardNode s n).nodes[n].presence ≠ .mismatch := by rw [heardNode_presence other]; split <;> nofun
  have entered := enterMismatch_eq (s := declaredNode r k n (heardNode s n)) (n := n)
    (by rw [declaredNode_role, heardNode_role]; exact role) noB noC
  rw [announceReport_differs (mt declarationFits_heardNode.1 misfit) heard, entered, record, declaredNode, heardNode, upd_upd, upd_upd]
  rfl

end

/-- Settles O33: the declared words are recorded, the test of R110 is made, and its outcome depends on the presence before. -/
theorem announceIsJudged : Obligations.AnnounceIsJudged := by
  refine ⟨fun s n q r k rest owed role heater names cls pan => ?_, fun s n q r k rest owed role differs noB noC => ?_⟩
  · intro v
    have fits : DeclarationFits s n r k := by
      refine ⟨names, cls, fun unit c judging => ?_⟩
      obtain ⟨p, a, at_p, assigned, rfl⟩ := judgingClass?_some.1 judging
      exact pan unit p a at_p assigned
    refine ⟨fun other => ?_, fun mismatch => ?_⟩
    · have taken : Taken s n := ⟨owed, role, other, fun contactor => absurd contactor heater⟩
      exact exec_announce_taken (v := v) taken owed (announceReport_heardNode fits heater other) q rest
    · exact exec_announce_mismatch (v := v) owed role mismatch (announceReport_fresh fits heater (.inr mismatch)) q rest
  · intro declared
    have misfit : ¬ DeclarationFits s n r k := fun fits => differs.elim (fun h => h fits.1) (Nat.not_lt.2 fits.2.1)
    have configured : s.nodes[n].role ≠ .noRole := by rcases role with e | e <;> rw [e] <;> nofun
    refine ⟨fun mismatch => ?_, fun other => ?_⟩
    · exact exec_announce_mismatch (v := { s with nodes := s.nodes.set n declared }) owed configured mismatch
        (announceReport_stays misfit mismatch) q rest
    · have unheated : s.nodes[n].role ≠ .heaterContactor := by rcases role with e | e <;> rw [e] <;> nofun
      have taken : Taken s n := ⟨owed, configured, other, fun contactor => absurd contactor unheated⟩
      have announced := exec_announce_taken taken (by exact owed) (announceReport_misfit misfit role other noB noC) q rest
      exact announced

end Sys2Proof.Machine

namespace Sys2Proof.Machine

/-! # The Roof Transmit Arbiter's queues

## Placements (R125, R126) -/

/-- Settles O32: `slotAfter` keeps a held frame against SUSTAIN alone. -/
theorem classAPlacement : Obligations.ClassAPlacement := by
  intro s n f
  have slot : slotAfter f s.roof.classA[n] =
      if f = .sustain ∧ s.roof.classA[n] ≠ none then s.roof.classA[n] else some f := by
    cases held : s.roof.classA[n] <;> cases f <;> rfl
  rw [← slot]
  rfl

section
variable {e : BEntry} {l : List BEntry}

/-- A class B entry replaces its node's entry. -/
def replaceB (e : BEntry) (l : List BEntry) : List BEntry := l.map fun x => if x.node = e.node then e else x

theorem replaceB_of_new (h : ∀ y ∈ l, y.node ≠ e.node) : replaceB e l = l :=
  List.map_congr_left (fun y hy => if_neg (h y hy)) |>.trans (List.map_id l)

theorem replaceB_append_cons {a b : List BEntry} {x : BEntry} (same : x.node = e.node) (h : ∀ y ∈ a ++ b, y.node ≠ e.node) :
    replaceB e (a ++ x :: b) = a ++ e :: b := by
  rw [List.forall_mem_append] at h
  calc replaceB e (a ++ x :: b)
      = replaceB e a ++ (if x.node = e.node then e else x) :: replaceB e b := by
        simp only [replaceB, List.map_append, List.map_cons]
    _ = a ++ e :: b := by rw [if_pos same, replaceB_of_new h.1, replaceB_of_new h.2]

theorem insertB_of_mem (h : ∃ x ∈ l, x.node = e.node) : insertB e l = some (replaceB e l) := by
  unfold insertB
  exact if_pos (by simpa using h)

theorem insertB_of_new (h : ∀ y ∈ l, y.node ≠ e.node) : insertB e l =
    if l.length < 16 then some (l ++ [e])
    else if l.any BEntry.isAnnounce then some (l.eraseP BEntry.isAnnounce ++ [e]) else none := by
  unfold insertB
  exact if_neg (by simpa using h)

theorem isAnnounce_iff (e : BEntry) : e.isAnnounce = true ↔ e.cmd = .announceRequest := by simp [BEntry.isAnnounce]

end

/-- Settles O31: the four outcomes of `insertB`, by whether the node has an entry, a place is free, or an ANNOUNCE-REQUEST gives
way. -/
theorem classBPlacement : Obligations.ClassBPlacement := by
  intro e l
  refine ⟨fun a b x split same others => ?_, fun new room => ?_, fun new full a b x split request first => ?_,
    fun new full none_requested => ?_⟩
  · subst split
    rw [insertB_of_mem ⟨x, by simp, same⟩, replaceB_append_cons same others]
  · rw [insertB_of_new new, if_pos room]
  · have requested : l.any BEntry.isAnnounce = true := List.any_eq_true.2 ⟨x, by simp [split], (isAnnounce_iff x).2 request⟩
    have gone : l.eraseP BEntry.isAnnounce = a ++ b := by
      rw [split, List.eraseP_append_right _ fun y hy => mt (isAnnounce_iff y).1 (first y hy),
        List.eraseP_cons_of_pos ((isAnnounce_iff x).2 request)]
    rw [insertB_of_new new, if_neg (by omega), if_pos requested, gone]
  · have unrequested : ¬ l.any BEntry.isAnnounce = true := by
      rw [List.any_eq_true]
      rintro ⟨y, hy, request⟩
      exact none_requested y hy ((isAnnounce_iff y).1 request)
    rw [insertB_of_new new, if_neg (by omega), if_neg unrequested]

/-! ## Queues within their bounds (R124, R165) -/

/-- A class B queue within its bound, with one entry per node (R124). -/
def ClassBOk (l : List BEntry) : Prop := l.length ≤ 16 ∧ (l.map BEntry.node).Nodup

/-- A Notice Queue within its bound, with one notice per key (R165). -/
def NoticesOk (l : List Notice) : Prop := l.length ≤ 32 ∧ (l.map fun n => n.data.key).Nodup

section
variable {e : BEntry} {l q : List BEntry}

theorem ClassBOk.sublist (h : ClassBOk l) (sub : q.Sublist l) : ClassBOk q :=
  ⟨sub.length_le.trans h.1, h.2.sublist (sub.map _)⟩

theorem ClassBOk.filter (h : ClassBOk l) (p : BEntry → Bool) : ClassBOk (l.filter p) := h.sublist List.filter_sublist

theorem ClassBOk.append_new (h : ClassBOk l) (room : l.length < 16) (new : ∀ y ∈ l, y.node ≠ e.node) : ClassBOk (l ++ [e]) := by
  refine ⟨by simp; omega, ?_⟩
  rw [List.map_append]
  exact h.2.append (List.nodup_singleton _) (by simpa [eq_comm] using new)

theorem map_node_replaceB : (replaceB e l).map BEntry.node = l.map BEntry.node := by
  rw [replaceB, List.map_map]
  refine List.map_congr_left fun x _ => ?_
  by_cases same : x.node = e.node <;> simp [same]

theorem ClassBOk.replaceB (h : ClassBOk l) : ClassBOk (replaceB e l) := by
  rw [ClassBOk, map_node_replaceB]
  exact ⟨(List.length_map _).trans_le h.1, h.2⟩

/-- A placement keeps the queue within its bound: what is full gives up an ANNOUNCE-REQUEST first (R126). -/
theorem ClassBOk.insertB (h : ClassBOk l) (placed : insertB e l = some q) : ClassBOk q := by
  by_cases held : ∃ x ∈ l, x.node = e.node
  · rw [insertB_of_mem held] at placed
    cases placed
    exact h.replaceB
  · have new : ∀ y ∈ l, y.node ≠ e.node := by simpa using held
    rw [insertB_of_new new] at placed
    split at placed
    case isTrue room => cases placed; exact h.append_new room new
    case isFalse =>
      split at placed
      case isTrue requested =>
        cases placed
        obtain ⟨x, hx, request⟩ := List.any_eq_true.1 requested
        have shorter : (l.eraseP BEntry.isAnnounce).length = l.length - 1 := List.length_eraseP_of_mem hx request
        have filled := List.length_pos_of_mem hx
        refine (h.sublist List.eraseP_sublist).append_new ?_ fun y hy => new y (List.eraseP_subset hy)
        have := h.1
        omega
      case isFalse => cases placed

end

section
variable {l : List Notice} {d : NoticeData}

theorem NoticesOk.append_new (h : NoticesOk l) (room : l.length < 32) {n : Notice} (new : ∀ m ∈ l, m.data.key ≠ n.data.key) :
    NoticesOk (l ++ [n]) := by
  refine ⟨by simp; omega, ?_⟩
  rw [List.map_append]
  exact h.2.append (List.nodup_singleton _) (by simpa [eq_comm] using new)

/-- A change of notices that leaves their keys. -/
theorem NoticesOk.map (h : NoticesOk l) {f : Notice → Notice} (keeps : ∀ n, (f n).data.key = n.data.key) :
    NoticesOk (l.map f) := by
  have keys : (l.map f).map (fun n => n.data.key) = l.map fun n => n.data.key := by
    rw [List.map_map]
    exact List.map_congr_left fun n _ => keeps n
  exact ⟨(List.length_map _).trans_le h.1, keys ▸ h.2⟩

theorem key_coalesced (n : Notice) :
    (if n.data.key = d.key then { data := d, rep := satSucc 255 n.rep } else n : Notice).data.key = n.data.key := by
  split
  case isTrue same => exact same.symm
  case isFalse => rfl

/-- A notice that a block queues is coalesced, created or dropped (R165 to R167). -/
theorem noticesOk_noteNotice {t : Train} (h : NoticesOk t.notices) (d : NoticeData) : NoticesOk (noteNotice d t).notices := by
  unfold noteNotice
  split
  · exact h
  · split
    case isTrue => exact h.map key_coalesced
    case isFalse unknown =>
      split
      case isTrue room => exact h.append_new room (by simpa using unknown)
      case isFalse => exact h

theorem kind_noticesLost {m : NoticeData} (k : Nat) (same : m.key = (NoticeData.noticesLost k).key) : m.kind = .noticesLost :=
  congrArg Prod.fst same

theorem key_addLost (dropped : Nat) (n : Notice) : (addLost dropped n).data.key = n.data.key := by
  unfold addLost
  split
  case h_1 e => rw [e]; rfl
  case h_2 => rfl

/-- NOTICES-LOST joins the waiting one, or takes the place that is free (R166). -/
theorem noticesOk_tellLost {t : Train} (h : NoticesOk t.notices) (room : t.notices.length < 32) :
    NoticesOk (tellLost t).notices := by
  unfold tellLost
  split
  · simp only
    split
    case isTrue => exact h.map (key_addLost _)
    case isFalse unknown =>
      exact h.append_new room fun m hm same => unknown (List.any_eq_true.2 ⟨m, hm, decide_eq_true (kind_noticesLost _ same)⟩)
  · exact h

theorem noteSent_notices (d : NoticeData) (t : Train) : (noteSent d t).notices = t.notices := by unfold noteSent; split <;> rfl

/-- A notice that is sent frees its place (R157, R166). -/
theorem noticesOk_sendNotice {t : Train} {n : Notice} (h : NoticesOk (n :: l)) : NoticesOk (sendNotice n l t).notices := by
  have rest : NoticesOk l := ⟨(Nat.le_succ _).trans h.1, (List.nodup_cons.1 h.2).2⟩
  refine noticesOk_tellLost ?_ ?_ <;> rw [noteSent_notices]
  · exact rest
  · exact h.1

end

/-! ## What every operation keeps of the queues

The predicate `QueuesOk` reads the part of the state that `State.queues` holds. One lemma per operation of the model says that it
keeps the predicate, in the order of the model's definitions, and a reaction made of several operations is a chain of their
lemmas. -/

/-- Class B and C, the bypass count (R124), the mirror buffer (R152) and the Notice Queue (R165). -/
structure Queues where
  classB : List BEntry
  classC : List CEntry
  bypass : Nat
  mirror : List MirrorCopy
  notices : List Notice

def State.queues (s : State) : Queues := ⟨s.roof.classB, s.roof.classC, s.roof.bypass, s.fwd.mirror, s.train.notices⟩

/-- Queues that hold what `QueuesOk` asks of a state's. -/
structure Queues.Ok (q : Queues) : Prop where
  classB : ClassBOk q.classB
  classC : q.classC.length ≤ 8
  bypass : q.bypass ≤ 15
  mirror : q.mirror.length ≤ 8
  notices : NoticesOk q.notices

theorem queuesOk_iff {s : State} : QueuesOk s ↔ s.queues.Ok :=
  ⟨fun h => ⟨⟨h.classB_len, h.classB_one⟩, h.classC_len, h.bypass_le, h.mirror_len, h.notices_len, h.notices_keys⟩,
    fun h => ⟨h.classB.1, h.classB.2, h.classC, h.bypass, h.mirror, h.notices.1, h.notices.2⟩⟩

/-- A run over a list whose every turn keeps the bounds. -/
theorem queuesOk_foldl {α : Type} {f : State → α → State} (turn : ∀ s x, QueuesOk s → QueuesOk (f s x)) (l : List α)
    {s : State} (h : QueuesOk s) : QueuesOk (l.foldl f s) := by
  induction l generalizing s with
  | nil => exact h
  | cons x l ih => exact ih (turn s x h)

namespace QueuesOk

theorem frame {s t : State} (h : QueuesOk s) (same : t.queues = s.queues) : QueuesOk t :=
  queuesOk_iff.2 (same ▸ queuesOk_iff.1 h)

theorem ite {p : Prop} [Decidable p] {s t : State} (yes : QueuesOk s) (no : QueuesOk t) : QueuesOk (if p then s else t) := by
  split
  · exact yes
  · exact no

section
variable {s : State} (h : QueuesOk s)
include h

/-! ### Updates of one record -/

theorem modRecog {f : Recog → Recog} : QueuesOk (s.modRecog f) := h.frame rfl
theorem modPos {p : Pos} {f : PosRec → PosRec} : QueuesOk (s.modPos p f) := h.frame rfl
theorem modChan {c : Chan} {f : Channel → Channel} : QueuesOk (s.modChan c f) := h.frame rfl
theorem modCo {f : Changeover → Changeover} : QueuesOk (s.modCo f) := h.frame rfl
theorem modZone {z : Zone} {f : ZoneRec → ZoneRec} : QueuesOk (s.modZone z f) := h.frame rfl
theorem modScrape {f : Scrape → Scrape} : QueuesOk (s.modScrape f) := h.frame rfl
theorem modNode {n : Node} {f : NodeRec → NodeRec} : QueuesOk (s.modNode n f) := h.frame rfl
theorem modTakeover {f : Takeover → Takeover} : QueuesOk (s.modTakeover f) := h.frame rfl
theorem stagger {x : Option Nat} : QueuesOk { s with stagger := x } := h.frame rfl
theorem announceRetry {x : Option Nat} : QueuesOk { s with announceRetry := x } := h.frame rfl
theorem serial {n : Nat} : QueuesOk { s with serial := n } := h.frame rfl
theorem modTx {x : Option RoofTx} : QueuesOk (s.modRoof fun r => { r with tx := x }) := h.frame rfl

/-- A change of the Train Link Interface that leaves the Notice Queue in order. -/
theorem modTrain {f : Train → Train} (notices : NoticesOk (f s.train).notices) : QueuesOk (s.modTrain f) :=
  queuesOk_iff.2 { queuesOk_iff.1 h with notices := notices }

/-- A change of class B that leaves it in order. -/
theorem withClassB {l : List BEntry} (classB : ClassBOk l) : QueuesOk (s.modRoof fun r => { r with classB := l }) :=
  queuesOk_iff.2 { queuesOk_iff.1 h with classB := classB }

/-- A change of the mirror buffer and the counts of its block that leaves the buffer within its bound. -/
theorem modFwd {f : Forward → Forward} (mirror : (f s.fwd).mirror.length ≤ 8) : QueuesOk (s.modFwd f) :=
  queuesOk_iff.2 { queuesOk_iff.1 h with mirror := mirror }

theorem notices : NoticesOk s.train.notices := (queuesOk_iff.1 h).notices

theorem classB : ClassBOk s.roof.classB := (queuesOk_iff.1 h).classB

/-! ### Notices, responses, placements -/

theorem queueNotice {d : NoticeData} : QueuesOk (queueNotice d s) := h.modTrain (noticesOk_noteNotice h.notices d)

theorem addResponse {r : Response} : QueuesOk (addResponse r s) := h.frame rfl

theorem placeA {n : Node} {f : AFrame} : QueuesOk (placeA n f s) := h.frame rfl

theorem removeSustain {n : Node} : QueuesOk (removeSustain n s) := h.frame rfl

theorem removeLower {n : Node} : QueuesOk (removeLower n s) := h.frame rfl

theorem clearSlotA {n : Node} : QueuesOk (clearSlotA n s) := h.frame rfl

theorem owe {c : BCmd} {k : Nat} : QueuesOk (owe c k s) := h.frame rfl

theorem raiseClearsLower {n : Node} {c : BCmd} : QueuesOk (raiseClearsLower n c s) := by
  cases c with
  | raise => exact h.removeLower
  | _ => exact h

theorem placeB {n : Node} {c : BCmd} : QueuesOk (placeB n c s) := by
  simp only [Machine.placeB]
  split
  · exact h.serial.owe
  · split
    case h_1 => exact h.serial.owe
    case h_2 placed =>
      exact (h.serial.withClassB (h.classB.insertB placed)).raiseClearsLower

theorem placeForRole {r : Role} {c : BCmd} : QueuesOk (placeForRole r c s) := by
  unfold Machine.placeForRole
  split
  · exact h.placeB
  · exact h.serial.owe

theorem placeABreaker {f : AFrame} : QueuesOk (placeABreaker f s) := by
  unfold Machine.placeABreaker
  split
  · exact h.placeA
  · exact h

theorem withdrawClose : QueuesOk (withdrawClose s) := h.withClassB (h.classB.filter _)

theorem withdrawRaise {n : Node} : QueuesOk (withdrawRaise n s) := h.withClassB (h.classB.filter _)

theorem placeAnnounce {n : Node} : QueuesOk (placeAnnounce n s) := by
  unfold Machine.placeAnnounce
  split
  case isTrue => exact h
  case isFalse free =>
    simp only [not_or, not_le, classBMax, List.any_eq_true, not_exists, not_and, decide_eq_true_eq] at free
    obtain ⟨_, new, room⟩ := free
    exact h.serial.withClassB (h.classB.append_new room new)

theorem announceAbsent : QueuesOk (announceAbsent s) :=
  queuesOk_foldl (fun _ _ h => .ite h.placeAnnounce h) _ h

/-! ### The Heater Scheduler -/

theorem placeHeatOff {z : Zone} : QueuesOk (placeHeatOff z s) := by
  unfold Machine.placeHeatOff
  split
  · exact h
  · exact h.placeB

theorem placeHeatOffUnlessMismatch {z : Zone} : QueuesOk (placeHeatOffUnlessMismatch z s) := by
  unfold Machine.placeHeatOffUnlessMismatch
  split
  · exact h
  · exact .ite h h.placeB

theorem placeHeatOn {z : Zone} : QueuesOk (placeHeatOn z s) := by
  unfold Machine.placeHeatOn
  split
  · exact h
  · exact h.placeB

theorem heat {z : Zone} : QueuesOk (heat z s) := h.modZone.placeHeatOn.stagger

theorem startZone {z : Zone} : QueuesOk (startZone z s) := h.modZone.heat

theorem pauseZone {z : Zone} : QueuesOk (pauseZone z s) := h.modZone.placeHeatOffUnlessMismatch

theorem closeGate : QueuesOk (closeGate s) := (queuesOk_foldl (fun _ _ h => .ite h.pauseZone h) _ h).stagger

theorem startFromQueue {but : Option Zone} : QueuesOk (startFromQueue but s) := by
  unfold Machine.startFromQueue
  split
  · exact h
  · refine .ite h.startZone (.ite ?_ h)
    split
    · exact h
    · exact h.startZone.modZone

theorem startDecisionBut {but : Option Zone} : QueuesOk (startDecisionBut but s) := by
  refine .ite ?_ h
  split
  · exact h.heat
  · exact h.startFromQueue

theorem startDecision : QueuesOk (startDecision s) := h.startDecisionBut

theorem resumeIfAble {z : Zone} : QueuesOk (resumeIfAble s z) := .ite h.heat h

theorem openGate : QueuesOk (openGate s) := by
  have resumed (l : List Zone) : QueuesOk (l.foldl Machine.resumeIfAble s) := queuesOk_foldl (fun _ _ h => h.resumeIfAble) l h
  exact .ite (resumed _) (resumed _).startDecision

theorem gateChange {was : Bool} : QueuesOk (gateChange was s) := .ite h.closeGate (.ite h.openGate h)

theorem iceNotice {z : Zone} : QueuesOk (iceNotice z s) := .ite h.queueNotice h

theorem passDue {z : Zone} : QueuesOk (passDue z s) := .ite h.modZone.iceNotice.startDecision h.modZone.iceNotice

theorem passComplete {z : Zone} : QueuesOk (passComplete z s) := h.placeHeatOff.modZone.startDecision

theorem contactorFailure {z : Zone} {kind : ZoneFailure} : QueuesOk (contactorFailure z kind s) :=
  h.modZone.placeHeatOffUnlessMismatch.queueNotice.startDecisionBut

theorem contactorReport {z : Zone} {p : ContactorPos} : QueuesOk (contactorReport z p s) := by
  cases p with
  | off => exact h.modZone
  | on => exact .ite h.modZone h.modZone.placeHeatOff
  | fault => exact .ite h.modZone.contactorFailure h.modZone

theorem contactorLost {n : Node} {kind : ZoneFailure} : QueuesOk (contactorLost n kind s) := by
  unfold Machine.contactorLost
  split
  · exact h
  · exact .ite h.contactorFailure h

theorem contactorPresence {n : Node} : QueuesOk (contactorPresence n s) := by
  unfold Machine.contactorPresence
  split
  · exact h.startDecision
  · exact h
  · exact h.contactorLost
  · exact h.contactorLost

theorem endRun {why : EndReason} : QueuesOk (endRun why s) := by
  refine .ite h (.modScrape ?_)
  split
  · exact h
  · exact h.queueNotice

theorem shed {k : Nat} {z : Zone} : QueuesOk (shed k z s) := by
  induction k generalizing s with
  | zero => exact h
  | succ k ih =>
    refine .ite h ?_
    split
    · exact h
    · exact ih h.pauseZone

theorem forceZone {z : Zone} : QueuesOk (forceZone z s) := by
  have forced : QueuesOk ((s.modScrape fun r => { r with forcedZone := some z }).modZone z fun r => { r with forced := true }) :=
    h.modScrape.modZone
  simp only [Machine.forceZone]
  split
  · exact forced
  · exact forced.shed.heat
  · exact forced.shed.startZone
  · exact forced.modZone.shed.startZone

theorem forceStrip {strip : Option Zone} : QueuesOk (forceStrip strip s) := by
  unfold Machine.forceStrip
  split
  · exact h
  · exact .ite h.forceZone h

theorem scrapeOnChannel {c : Chan} {old new : ChanState} : QueuesOk (scrapeOnChannel c old new s) :=
  .ite (.ite h.modScrape (.ite h.endRun h)) h

/-! ### Pantograph Control -/

theorem placeAChan {c : Chan} {f : AFrame} : QueuesOk (placeAChan c f s) := by
  unfold Machine.placeAChan
  split
  · exact h
  · exact h.placeA

theorem removeSustainChan {c : Chan} : QueuesOk (removeSustainChan c s) := by
  unfold Machine.removeSustainChan
  split
  · exact h
  · exact h.removeSustain

theorem withdrawRaiseChan {c : Chan} : QueuesOk (withdrawRaiseChan c s) := by
  unfold Machine.withdrawRaiseChan
  split
  · exact h
  · exact h.withdrawRaise

theorem placeRaise {c : Chan} : QueuesOk (placeRaise c s) := by
  unfold Machine.placeRaise
  split
  · exact h
  · exact h.placeB

theorem faultNotice {c : Chan} {f : ChanFault} {entered : ChanState} {cause : Option LowerCause} {k l : Nat} :
    QueuesOk (faultNotice c f entered cause k l s) := .ite h h.queueNotice

theorem lowerCore {c : Chan} {cause : LowerCause} : QueuesOk (lowerCore c cause s) := h.modChan.withdrawRaiseChan.placeAChan

theorem enterLowering {c : Chan} {cause : LowerCause} : QueuesOk (enterLowering c cause s) := h.lowerCore.scrapeOnChannel

theorem faultLowering {c : Chan} {f : ChanFault} : QueuesOk (faultLowering c f s) :=
  h.modChan.lowerCore.faultNotice.scrapeOnChannel

theorem lowerRequest {c : Chan} {cause : LowerCause} : QueuesOk (lowerRequest c cause s) := .ite h.enterLowering h

theorem lowerAll {cause : LowerCause} : QueuesOk (lowerAll cause s) := queuesOk_foldl (fun _ _ h => h.lowerRequest) _ h

theorem raiseRequest {c : Chan} {duty : Duty} : QueuesOk (raiseRequest c duty s) := by
  unfold Machine.raiseRequest
  split
  · exact h
  · exact .ite h.modChan.placeRaise.placeAChan h

theorem addLocks {c : Chan} : QueuesOk (addLocks c s) := h.modChan.faultNotice

theorem lockOnAdd {c : Chan} : QueuesOk (lockOnAdd c s) := h.addLocks.removeSustainChan.withdrawRaiseChan.scrapeOnChannel

theorem dropToCooldown {c : Chan} : QueuesOk (dropToCooldown c s) := h.modChan.removeSustainChan.faultNotice.scrapeOnChannel

theorem endLowering {c : Chan} : QueuesOk (endLowering c s) := h.modChan

theorem lowerTimeout {c : Chan} : QueuesOk (lowerTimeout c s) := h.modChan.faultNotice

theorem raiseComplete {c : Chan} : QueuesOk (raiseComplete c s) := h.modChan.scrapeOnChannel

theorem startRun {c : Chan} {o : Origin} : QueuesOk (startRun c o s) := h.modScrape.raiseRequest.forceStrip

theorem autoScrape : QueuesOk (autoScrape s) := by
  unfold Machine.autoScrape
  split
  · exact h
  · exact h.startRun

/-! ### The Power Path Controller -/

theorem setCo {st : CoState} : QueuesOk (setCo st s) := .ite h.modCo.gateChange.endRun h.modCo.gateChange

theorem startPhase {k : CoTimer} {ms : Nat} : QueuesOk (startPhase k ms s) := h.modCo

theorem stopPhase : QueuesOk (stopPhase s) := h.modCo

theorem openRepOn : QueuesOk (openRepOn s) := h.modCo.placeABreaker

theorem breakerSustainOff : QueuesOk (breakerSustainOff s) := by
  simp only [Machine.breakerSustainOff]
  split
  · exact h.modCo
  · exact h.modCo.removeSustain

theorem closeDeparted : QueuesOk (closeDeparted s) := h.modCo.placeABreaker

theorem schedulerLowers {was : State} : QueuesOk (schedulerLowers was s) := by
  unfold Machine.schedulerLowers
  split
  · exact h
  · exact .ite h.lowerRequest h

theorem enterIdle : QueuesOk (enterIdle s) := h.setCo.modCo.schedulerLowers.lowerAll

theorem enterCoasting : QueuesOk (enterCoasting s) := h.setCo.modCo.lowerAll

theorem finishLowering : QueuesOk (finishLowering s) := .ite h.enterCoasting h.enterIdle

theorem lowerCollector {cause : LowerCause} : QueuesOk (lowerCollector cause s) := by
  unfold Machine.lowerCollector
  split
  · exact h
  · exact h.lowerRequest

theorem lowerScraper : QueuesOk (lowerScraper s) := by
  unfold Machine.lowerScraper
  split
  · exact h
  · exact h.lowerRequest

theorem enterCoLowering {plan : Plan} : QueuesOk (enterCoLowering plan s) :=
  have lowered := h.setCo.modCo.schedulerLowers.lowerCollector.lowerScraper
  .ite lowered lowered.finishLowering

theorem enterLockout {cause : LockoutCause} : QueuesOk (enterLockout cause s) :=
  have withdrawn := QueuesOk.ite h.withdrawClose h
  .ite h withdrawn.breakerSustainOff.modCo.openRepOn.setCo.schedulerLowers.lowerAll.queueNotice

theorem enterOpening {plan : Plan} : QueuesOk (enterOpening plan s) :=
  h.setCo.modCo.breakerSustainOff.placeABreaker.startPhase

theorem awaitSwitch : QueuesOk (awaitSwitch s) := by
  simp only [Machine.awaitSwitch]
  split
  · exact h.startPhase
  · exact h.placeForRole.modCo.startPhase

theorem admitClose : QueuesOk (admitClose s) := h.placeForRole.modCo.startPhase

theorem lowerMisfits {k : SysId} : QueuesOk (lowerMisfits k s) := queuesOk_foldl (fun _ _ h => .ite h.lowerRequest h) _ h

theorem changeoverTo {k : SysId} : QueuesOk (changeoverTo k s) := h.lowerMisfits.modCo

theorem neutralEntry : QueuesOk (neutralEntry s) := h.setCo.modCo.startPhase

theorem enterPath {n : Nat} {e : Entry} : QueuesOk (enterPath n e s) := by
  induction n generalizing e s with
  | zero => exact h
  | succ n ih =>
    cases e with
    | switching => exact .ite (ih h.setCo.modCo) h.setCo.modCo.awaitSwitch
    | closing => exact .ite (.ite h.setCo.admitClose (ih h.setCo)) (ih h.setCo)
    | neutral =>
      rw [enterPath_neutral_entry]
      split
      · exact h.neutralEntry
      · exact ih h.neutralEntry
      · exact ih h.neutralEntry.changeoverTo
      · exact h.neutralEntry.enterCoLowering

theorem enterSwitching : QueuesOk (enterSwitching s) := h.enterPath

theorem enterClosing : QueuesOk (enterClosing s) := h.enterPath

theorem enterNeutral : QueuesOk (enterNeutral s) := h.enterPath

theorem evaluateNeutral : QueuesOk (evaluateNeutral s) := by
  unfold Machine.evaluateNeutral
  split
  · exact h
  · exact h.enterClosing
  · exact h.changeoverTo.enterSwitching
  · exact h.enterCoLowering

theorem startWith {k : SysId} {c : Chan} : QueuesOk (startWith k c s) := by
  unfold Machine.startWith
  exact h.modCo.raiseRequest.setCo

theorem evaluateRecognizing {r : SysId} : QueuesOk (evaluateRecognizing r s) :=
  .ite h.enterSwitching (.ite h.lowerMisfits.queueNotice.modCo.enterSwitching h.enterCoLowering.queueNotice)

theorem enterRecognizing : QueuesOk (enterRecognizing s) := by
  simp only [Machine.enterRecognizing]
  split
  · exact h.setCo.startPhase.evaluateRecognizing
  · exact h.setCo.startPhase

theorem noSubstitute : QueuesOk (noSubstitute s) := h.enterIdle.queueNotice

theorem substituteRaise : QueuesOk (substituteRaise s) := by
  simp only [Machine.substituteRaise]
  refine .ite h.noSubstitute ?_
  split
  · exact h.modCo.modCo.raiseRequest.setCo
  · exact h.modCo.noSubstitute

theorem dropQueuedClose : QueuesOk (dropQueuedClose s) := h.withdrawClose.modCo

theorem collectorLost : QueuesOk (collectorLost s) := by
  unfold Machine.collectorLost
  split
  case h_5 => exact .ite h.enterOpening h.dropQueuedClose.substituteRaise
  case h_6 => exact h.enterOpening
  case h_7 => exact .ite h.modCo h
  case h_1 | h_2 | h_3 | h_4 => exact h.substituteRaise
  all_goals exact h

theorem coOnChannel {c : Chan} {old new : ChanState} : QueuesOk (coOnChannel c old new s) :=
  .ite h (.ite (.ite h h.finishLowering) (.ite h.collectorLost (.ite h.enterRecognizing h)))

theorem coOnResult : QueuesOk (coOnResult s) := by
  unfold Machine.coOnResult
  split
  case h_1 =>
    split
    · exact h.evaluateRecognizing
    · exact h
  case h_2 => exact .ite h h.stopPhase.enterCoLowering.queueNotice
  case h_3 => exact .ite h (.ite h.enterOpening h.dropQueuedClose.stopPhase.enterNeutral)
  case h_4 => exact .ite h h.enterOpening
  case h_5 => exact (QueuesOk.ite h h.modCo).evaluateNeutral
  all_goals exact h

theorem countTrip {kind : TripKind} : QueuesOk (countTrip kind s) := h.breakerSustainOff.modCo.queueNotice

theorem afterTrip : QueuesOk (afterTrip s) := .ite h.enterNeutral h.enterLockout

theorem enterPowered : QueuesOk (enterPowered s) := h.modCo.setCo

theorem carryOutPlan : QueuesOk (carryOutPlan s) := by
  simp only [Machine.carryOutPlan]
  split
  · exact h.modCo.enterNeutral
  · exact h.modCo.substituteRaise
  all_goals exact h.modCo.enterCoLowering

theorem breakerReport {p : BreakerPos} : QueuesOk (breakerReport p s) := by
  have reported : QueuesOk (s.modCo (breakerRecord p)) := h.modCo
  cases p with
  | opened => exact .ite reported.countTrip.afterTrip (.ite reported.carryOutPlan reported)
  | closed => exact .ite reported.openRepOn (.ite reported.enterPowered reported)
  | travel => exact reported

theorem switchWhileSwitching {shows : Bool} : QueuesOk (switchWhileSwitching shows s) := by
  unfold Machine.switchWhileSwitching
  split
  · exact .ite (.ite h.modCo.enterClosing h.modCo.startPhase) h
  · exact .ite h h.startPhase
  · exact h

theorem switchReport {p : Nat} : QueuesOk (switchReport p s) := by
  simp only [Machine.switchReport]
  split
  case h_1 => exact h.modCo.switchWhileSwitching
  case h_2 | h_3 => exact .ite h.modCo h.modCo.enterLockout
  all_goals exact h.modCo

theorem breakerSilent : QueuesOk (breakerSilent s) := .ite h.modCo.countTrip.openRepOn.afterTrip h.modCo

theorem switchSilent : QueuesOk (switchSilent s) := h.modCo

theorem coNodeMismatch : QueuesOk (coNodeMismatch s) := .ite h h.enterLockout

theorem powerDown : QueuesOk (powerDown s) := by
  simp only [Machine.powerDown]
  refine .ite h ?_
  split
  case h_5 => exact .ite h.modCo.enterOpening h.modCo.dropQueuedClose.enterCoLowering
  case h_6 => exact h.modCo.enterOpening
  case h_7 | h_8 => exact h.modCo.modCo
  case h_9 => exact h.modCo.enterIdle
  case h_10 | h_11 => exact h.modCo
  all_goals exact h.modCo.stopPhase.enterCoLowering

theorem gradedCollector : QueuesOk (gradedCollector s) := by
  simp only [Machine.gradedCollector]
  split
  case h_1 => exact h.modCo.enterOpening
  case h_2 => exact .ite h.modCo.enterOpening h.modCo.dropQueuedClose.enterCoLowering
  case h_3 => exact .ite h.modCo h.modCo.modCo
  case h_4 | h_5 | h_6 | h_7 => exact h.modCo.stopPhase.enterCoLowering
  all_goals exact h.modCo

theorem switchOutcome {k : Nat} {o : CmdOutcome} : QueuesOk (switchOutcome k o s) := .ite h.enterLockout h

theorem closeOutcome {k : Nat} {o : CmdOutcome} : QueuesOk (closeOutcome k o s) := .ite h.enterLockout h

/-! ### What reaches a channel from outside -/

theorem chanFault {c : Chan} {f : ChanFault} : QueuesOk (chanFault c f s) := h.faultLowering.coOnChannel

theorem lowerByOther {c : Chan} {cause : LowerCause} : QueuesOk (lowerByOther c cause s) := .ite h.enterLowering.coOnChannel h

theorem arcWatch {c : Chan} {contact : Bool} {arc : Nat} : QueuesOk (arcWatch c contact arc s) :=
  .ite h.queueNotice.autoScrape h.queueNotice

theorem superviseContact {c : Chan} {contact : Bool} {arc : Nat} : QueuesOk (superviseContact c contact arc s) :=
  have watched := QueuesOk.ite h.modChan.arcWatch h.modChan
  .ite (.ite watched.chanFault watched) h.modChan

theorem loweringEnds {c : Chan} : QueuesOk (loweringEnds c s) := h.endLowering.coOnChannel

theorem addReport {c : Chan} {pos : PanPos} : QueuesOk (addReport c pos s) := by
  unfold Machine.addReport
  split
  case h_1 | h_2 => exact .ite h.lockOnAdd.coOnChannel h.chanFault
  case h_3 => exact .ite h.modChan.faultNotice.loweringEnds h.modChan.faultNotice
  case h_4 | h_5 => exact h.addLocks
  case h_6 => exact h.modChan.faultNotice

theorem plainReport {c : Chan} {pos : PanPos} {contact : Bool} {arc : Nat} : QueuesOk (plainReport c pos contact arc s) := by
  unfold Machine.plainReport
  split
  case h_1 => exact .ite h.raiseComplete.coOnChannel h
  case h_2 => exact .ite h.dropToCooldown.coOnChannel h.superviseContact
  case h_3 => exact .ite h.loweringEnds h
  all_goals exact h

theorem contactReport {p : Pos} {pos : PanPos} {contact add : Bool} {arc : Nat} :
    QueuesOk (contactReport p pos contact add arc s) := by
  simp only [Machine.contactReport]
  split
  · exact h.modPos
  · exact .ite h.modPos.addReport h.modPos.plainReport

theorem lowerWindowExpired {c : Chan} : QueuesOk (lowerWindowExpired c s) := h.lowerTimeout.enterLockout

theorem raiseOutcome {c : Chan} {k : Nat} {o : CmdOutcome} : QueuesOk (raiseOutcome c k o s) := .ite h.chanFault h

theorem pantographPresence {n : Node} : QueuesOk (pantographPresence n s) := by
  unfold Machine.pantographPresence
  split
  · exact h
  · refine .ite ?_ h
    split
    · exact h.chanFault
    · exact h.chanFault
    all_goals exact h

/-! ### The Node Roster -/

theorem deliverPart {c : BCmd} {k : Nat} {o : CmdOutcome} : QueuesOk (deliverPart c k o s) := by
  cases c with
  | raise ch => exact h.raiseOutcome
  | close => exact h.closeOutcome
  | switch p => exact h.switchOutcome
  | heatOn z =>
    refine .ite ?_ h
    cases o with
    | accepted => exact h
    | rejected => exact h.contactorFailure
    | failed => exact h.contactorFailure
  | heatOff z => exact .ite h h.queueNotice
  | announceRequest => exact h

theorem presenceHandOn {n : Node} : QueuesOk (presenceHandOn n s) := by
  unfold Machine.presenceHandOn
  split
  case h_1 => exact h.pantographPresence
  case h_2 => exact h.contactorPresence
  case h_3 =>
    split
    · exact h.coNodeMismatch
    · exact h.breakerSilent
    all_goals exact h
  case h_4 =>
    split
    · exact h.coNodeMismatch
    · exact h.switchSilent
    all_goals exact h
  all_goals exact h

theorem setPresence {n : Node} {p : Presence} : QueuesOk (setPresence n p s) := h.modNode.presenceHandOn

theorem removeForMismatch {n : Node} : QueuesOk (removeForMismatch n s) := by
  have cleared (gone : Bool) : (if gone then 0 else s.roof.bypass) ≤ 15 := by
    have := h.bypass_le
    split <;> omega
  refine queuesOk_foldl (fun _ _ h => h.addResponse) _ (queuesOk_foldl (fun _ _ h => h.deliverPart) _ (queuesOk_iff.2 ?_))
  exact { queuesOk_iff.1 h with
    classB := h.classB.filter _, classC := (List.length_filter_le ..).trans h.classC_len, bypass := cleared _ }

theorem enterMismatch {n : Node} : QueuesOk (enterMismatch n s) := h.queueNotice.setPresence.removeForMismatch

theorem becomePresent {n : Node} : QueuesOk (becomePresent n s) := h.modNode.setPresence

theorem judge {n : Node} {fresh : Bool} : QueuesOk (judge n fresh s) := by
  refine .ite ?_ (.ite h h.enterMismatch)
  split
  · exact h.becomePresent
  · exact .ite h.becomePresent h
  all_goals exact h

theorem announceReport {n : Node} {role cls : Word} : QueuesOk (announceReport n role cls s) := h.modNode.judge

theorem rejudge {n : Node} : QueuesOk (rejudge n s) := .ite h.judge h

theorem nodeSilenced {n : Node} : QueuesOk (nodeSilenced n s) := .ite h.queueNotice.setPresence h

theorem deliver {o : Outstanding} {out : CmdOutcome} {data : List Word} : QueuesOk (deliver o out data s) := by
  unfold Machine.deliver
  split
  · exact h.deliverPart
  · exact h.addResponse

theorem emptySlot {n : Node} : QueuesOk (emptySlot n s) := h.modNode

theorem ackReport {n : Node} {q : Byte} {p : List Word} : QueuesOk (ackReport n q p s) := by
  unfold Machine.ackReport
  split
  · exact .ite h.emptySlot.deliver h
  · exact h

theorem ackTimeout {n : Node} : QueuesOk (ackTimeout n s) := by
  unfold Machine.ackTimeout
  split
  · exact h
  · exact h.emptySlot.deliver

theorem takeCopy {m : MirrorCopy} : QueuesOk (takeCopy m s) := by
  unfold Machine.takeCopy
  split
  case isTrue room => exact h.modFwd (by simpa using room)
  case isFalse => exact (h.modFwd h.mirror_len).queueNotice

theorem offerMirror {m : MirrorCopy} : QueuesOk (offerMirror m s) := by
  unfold Machine.offerMirror
  split
  · exact h
  · exact .ite h.takeCopy h

theorem restartAge {n : Node} : QueuesOk (restartAge n s) := .ite h.modNode.setPresence h.modNode

theorem deliverReport {n : Node} {r : Report} : QueuesOk (deliverReport n r s) := by
  cases r with
  | announce role cls => exact h.announceReport
  | contact pos contact add arc =>
    simp only [Machine.deliverReport]
    split
    · exact h
    · exact h.contactReport
  | breaker p => exact .ite h.breakerReport h
  | switch p => exact .ite h.switchReport h
  | contactor p =>
    simp only [Machine.deliverReport]
    split
    · exact h
    · exact h.contactorReport

/-! ### Line Measurement and Recognition -/

theorem changeResult {w : LineResult} : QueuesOk (changeResult w s) := h.modRecog.queueNotice.coOnResult

theorem completeWindow : QueuesOk (completeWindow s) := .ite h.modRecog.modRecog.changeResult h.modRecog.modRecog

theorem takeSample {w : Word} : QueuesOk (takeSample s w) := .ite h.modRecog.completeWindow h.modRecog

theorem sampleDelivered {n : Node} {q : Byte} {p : List Word} : QueuesOk (sampleDelivered n q p s) :=
  .ite (queuesOk_foldl (fun _ _ h => h.takeSample) p h.modRecog) h

theorem sampleTimeoutExpired : QueuesOk (sampleTimeoutExpired s) := .ite (.ite h.modRecog h.modRecog.changeResult) h

theorem deliverFrame {n : Node} {q : Byte} {f : RoofFrame} : QueuesOk (deliverFrame n q f s) := by
  cases f with
  | report code p holds =>
    cases holds with
    | none => exact h
    | some r => exact h.deliverReport
  | sample p => exact h.sampleDelivered
  | ack code p => exact h.ackReport

theorem mirrorFrame {n : Node} {q : Byte} {f : RoofFrame} : QueuesOk (mirrorFrame n q f s) := by
  unfold Machine.mirrorFrame
  split
  · exact h.offerMirror
  · exact h

theorem unconfiguredFrame {n : Node} {f : RoofFrame} : QueuesOk (unconfiguredFrame n f s) := by
  unfold Machine.unconfiguredFrame
  split
  · exact h.modNode
  · exact h

theorem mismatchFrame {n : Node} {f : RoofFrame} : QueuesOk (mismatchFrame n f s) := by
  unfold Machine.mismatchFrame
  split
  · exact h.announceReport
  · exact h

theorem takeRoofFrame {n : Node} {q : Byte} {f : RoofFrame} : QueuesOk (takeRoofFrame n q f s) :=
  .ite h.unconfiguredFrame (.ite h.mismatchFrame h.restartAge.deliverFrame.mirrorFrame)

theorem roofCheckFailed {k : FrameFailure} : QueuesOk (roofCheckFailed k s) :=
  have counted : QueuesOk { s with roofCheckFail := satSucc 65535 s.roofCheckFail } := h.frame rfl
  counted.queueNotice

/-! ### The exchange on the train link -/

theorem trainFrameTaken : QueuesOk (trainFrameTaken s) := h.frame rfl

theorem discardRequest : QueuesOk (discardRequest s) := h.frame rfl

theorem discardCommand : QueuesOk (discardCommand s) := h.frame rfl

theorem trainCheckFailed {k : FrameFailure} : QueuesOk (trainCheckFailed k s) := (h.modTrain h.notices).queueNotice

theorem noteHeld {r : Result} : QueuesOk (noteHeld r s) := .ite h.modTakeover h

end
end QueuesOk

/-! ### Node commands -/

section
variable {s : State} {n : Node} {c : Byte}

/-- A node command that passes finds a place in class C (R144 step 6). -/
theorem queueSpace_pass (h : queueSpace s = .pass) : s.roof.classC.length < 8 := by
  unfold queueSpace at h
  split at h
  case isTrue => cases h
  case isFalse room => omega

theorem interlockStep_pass (h : interlockStep s n c = .pass) : s.roof.classC.length < 8 := by
  unfold interlockStep at h
  split at h
  · cases h
  · split at h
    · exact queueSpace_pass h
    · cases h

/-- A step that refuses is not the one that passes. -/
theorem fate_of_pass {p : Prop} [Decidable p] {r : Result} {d : List Word} {f : Fate}
    (h : (if p then Fate.refuse r d else f) = .pass) : f = .pass := by
  split at h
  · cases h
  · exact h

theorem commandSteps_pass {check : Bool} (h : commandSteps s check n c = .pass) : s.roof.classC.length < 8 := by
  have last : (if check then interlockStep s n c else queueSpace s) = .pass :=
    fate_of_pass (fate_of_pass (fate_of_pass (fate_of_pass (fate_of_pass h))))
  split at last
  · exact interlockStep_pass last
  · exact queueSpace_pass last

theorem commandFate_pass (h : commandFate s n c = .pass) : s.roof.classC.length < 8 := by
  unfold commandFate at h
  split at h
  · cases h
  · split at h
    · cases h
    · exact commandSteps_pass h
    · exact commandSteps_pass h

end

namespace QueuesOk

section
variable {s : State} (h : QueuesOk s)
include h

theorem decideCommand {n : Node} {q c : Byte} {p : List Word} : QueuesOk (decideCommand n q c p s) := by
  unfold Machine.decideCommand
  split
  case h_1 => exact h.discardCommand
  case h_2 => exact (h.modFwd h.mirror_len).addResponse
  case h_3 passes =>
    have room := commandFate_pass passes
    exact queuesOk_iff.2 { queuesOk_iff.1 h with classC := by simpa [State.queues] using room }

theorem nodeCommandFrame {n : Node} {q c : Byte} {p : List Word} : QueuesOk (nodeCommandFrame n q c p s) :=
  .ite h.trainFrameTaken (.ite h.trainFrameTaken.decideCommand h.trainFrameTaken.discardCommand)

/-- A management request whose own rule keeps the bounds. -/
theorem manage {decide : State → Reply} (own : ∀ {u}, QueuesOk u → QueuesOk (decide u).state) {q c : Byte} :
    QueuesOk (manage q c decide s) := by
  refine .ite h.trainFrameTaken.discardRequest ?_
  exact (own h.trainFrameTaken).noteHeld.addResponse

/-! ### What follows every command -/

theorem payOne : QueuesOk (payOne s) := by
  unfold Machine.payOne
  split
  case h_1 => exact h
  case h_2 rest _ =>
    have paid : QueuesOk { s with owed := rest } := h.frame rfl
    exact paid.deliverPart

theorem payOwed {n : Nat} : QueuesOk (payOwed n s) := by
  induction n generalizing s with
  | zero => exact h
  | succ n ih => exact .ite h (ih h.payOne)

theorem drain : QueuesOk (drain s) := (h.payOwed (n := owedRounds)).frame rfl

theorem grant : QueuesOk (grant s) := h.modTakeover.gateChange

theorem evaluateTakeover : QueuesOk (evaluateTakeover s) := by
  unfold Machine.evaluateTakeover
  split
  · exact .ite (.ite h.grant h.modTakeover) h
  · exact .ite h h.modTakeover
  · exact h

theorem takeoverAfter {was : State} : QueuesOk (takeoverAfter was s) := .ite h h.evaluateTakeover

theorem tellDeparture {x : RoofItem} : QueuesOk (tellDeparture x s) := by
  unfold Machine.tellDeparture
  split
  · split
    · exact h.closeDeparted
    all_goals exact h
  all_goals exact h

/-- A frame that is chosen leaves its queue shorter, and the bypass count stops at 15 (R130, R131). -/
theorem sendRoof {x : RoofItem} : QueuesOk (sendRoof x s) := by
  have counted (k : Nat) (small : k ≤ 15) (p : Bool) : (if p then k else s.roof.bypass) ≤ 15 := by
    have := h.bypass_le
    split <;> omega
  refine tellDeparture (queuesOk_iff.2 ?_)
  cases x with
  | classA n f => exact { queuesOk_iff.1 h with }
  | classB e =>
    exact { queuesOk_iff.1 h with
      classB := h.classB.sublist List.erase_sublist, bypass := counted _ (Nat.min_le_left ..) _ }
  | classC e =>
    exact { queuesOk_iff.1 h with
      classC := List.eraseP_sublist.length_le.trans h.classC_len, bypass := counted 0 (Nat.zero_le _) _ }

theorem roofPick : QueuesOk (roofPick s) := by
  refine .ite h ?_
  split
  · exact h
  · exact h.sendRoof

theorem trainPick : QueuesOk (trainPick s) := by
  refine .ite h ?_
  split
  case h_1 => exact h.modTrain h.notices
  case h_2 =>
    split
    case h_1 waiting => exact h.modTrain (noticesOk_sendNotice (waiting ▸ h.notices))
    case h_2 =>
      split
      case h_1 buffered =>
        have shorter := buffered ▸ h.mirror_len
        exact (h.modFwd (Nat.le_of_succ_le shorter)).modTrain h.notices
      case h_2 => exact h

theorem follows {was : State} : QueuesOk (follows was s) := h.takeoverAfter.roofPick.trainPick

theorem settle {was : State} : QueuesOk (settle was s) := h.drain.follows

/-! ### Loads and clears -/

/-- An answer OK leaves the state that its rule left. -/
theorem accept {d : List Word} : QueuesOk (accept s d).state := h

theorem loadSystem {entry : List Word} : QueuesOk (loadSystem entry s).state := by
  unfold Machine.loadSystem
  split
  · split
    · exact h
    · split
      · unfold storeSystem
        split
        · exact h
        · split
          · exact h
          · exact h.frame rfl
      · exact h
  · exact h

theorem loadWindow {entry : List Word} : QueuesOk (loadWindow entry s).state := by
  unfold Machine.loadWindow
  split
  · split
    · exact h
    · split
      · unfold storeWindow
        split
        · exact h
        · split
          · exact h
          · exact h.frame rfl
      · exact h
  · exact h

theorem loadInterlock {entry : List Word} : QueuesOk (loadInterlock entry s).state := by
  unfold Machine.loadInterlock
  split
  · split
    · exact h
    · split
      · unfold storeInterlock
        split
        · exact h
        · exact h.frame rfl
      · exact h
  · exact h

theorem rejudgeOld {old now : Option Node} : QueuesOk (rejudgeOld old now s) := by
  unfold Machine.rejudgeOld
  split
  · exact h
  · exact .ite h h.rejudge

theorem admitPosition {p : Pos} {a : PosAssign} : QueuesOk (admitPosition p a s).state := by
  unfold Machine.admitPosition
  split
  · exact h
  · split
    · exact h
    · exact h.modPos.rejudge.rejudgeOld.accept

theorem loadPosition {entry : List Word} : QueuesOk (loadPosition entry s).state := by
  unfold Machine.loadPosition
  split
  · split
    · exact h
    · split
      · exact h.admitPosition
      · exact h
  · exact h

theorem admitZone {z : Zone} {n : Node} {rated duration interval : Nat} {season : Bool} :
    QueuesOk (admitZone z n rated duration interval season s).state := by
  unfold Machine.admitZone
  split
  · exact h
  · split
    · exact h
    · split
      · exact h
      · exact h.modZone.startDecision.accept

theorem loadZone {entry : List Word} : QueuesOk (loadZone entry s).state := by
  unfold Machine.loadZone
  split
  · split
    · exact h.admitZone
    · exact h
  · exact h

theorem storeNode {n : Node} {role : Role} {period : Nat} : QueuesOk (storeNode n role period s) :=
  have loaded : QueuesOk (loadPresence n s.nodes[n].presence (s.modNode n (loadedNode role period))) :=
    .ite h.modNode h.modNode.presenceHandOn
  .ite loaded.placeAnnounce loaded

theorem admitNode {n : Node} {role : Role} {period : Nat} : QueuesOk (admitNode n role period s).state := by
  unfold Machine.admitNode
  split
  · exact h
  · split
    · exact h
    · exact h.storeNode.accept

theorem loadNode {entry : List Word} : QueuesOk (loadNode entry s).state := by
  unfold Machine.loadNode
  split
  · split
    · exact h
    · split
      · exact h.admitNode
      · exact h
  · exact h

theorem setConfig {i : ConfigItem} {c : Option Chan} {x : Nat} : QueuesOk (setConfig i c x s) := by
  unfold Machine.setConfig
  split <;> exact h.frame rfl

theorem loadConfig {entry : List Word} : QueuesOk (loadConfig entry s).state := by
  unfold Machine.loadConfig
  split
  · split
    · exact h
    · split
      · exact h
      · exact h.setConfig.accept
  · exact h

theorem clearSlot {n : Nat} {key : List Word} {clear : Fin n → State} (own : ∀ i, QueuesOk (clear i)) :
    QueuesOk (clearSlot key s clear).state := by
  unfold Machine.clearSlot
  split
  · split
    · exact h
    · split
      · exact own _
      · exact h
  · exact h

theorem clearSystem {key : List Word} : QueuesOk (clearSystem key s).state := h.clearSlot fun _ => h.frame rfl

theorem clearWindow {key : List Word} : QueuesOk (clearWindow key s).state := h.clearSlot fun _ => h.frame rfl

theorem clearInterlock {key : List Word} : QueuesOk (clearInterlock key s).state := h.clearSlot fun _ => h.frame rfl

theorem clearPosition {key : List Word} : QueuesOk (clearPosition key s).state := h.clearSlot fun _ => h.modPos.rejudgeOld

theorem clearZone {key : List Word} : QueuesOk (clearZone key s).state := by
  unfold Machine.clearZone
  split
  · split
    · split
      · exact h
      · exact (QueuesOk.ite h.modZone.startDecision h.modZone).accept
    · exact h
  · exact h

theorem clearNode {key : List Word} : QueuesOk (clearNode key s).state := by
  unfold Machine.clearNode
  split
  · split
    · exact h
    · split
      · split
        · exact h
        · exact h.modNode.accept
      · exact h
  · exact h

theorem clearConfig {key : List Word} : QueuesOk (clearConfig key s).state := by
  unfold Machine.clearConfig
  split
  · split
    · exact h
    · exact h.setConfig.accept
  · exact h

/-! ### The orders -/

theorem startFor {k : SysId} : QueuesOk (startFor k s).state := by
  unfold Machine.startFor
  split
  · exact h
  · exact h.startWith.accept

theorem whileBusy {k : SysId} : QueuesOk (whileBusy k s).state := by
  unfold Machine.whileBusy
  split
  · exact h
  · exact h

theorem reorderInNeutral {k : SysId} : QueuesOk (reorderInNeutral k s) := .ite h.modCo.evaluateNeutral h.modCo

theorem reclose {k : SysId} : QueuesOk (reclose k s) := .ite h.modCo.modCo.enterClosing h.modCo.modCo

theorem leaveFor {k : SysId} : QueuesOk (leaveFor k s) := h.modCo.enterOpening

theorem powerUpOrder {k : SysId} : QueuesOk (powerUpOrder k s).state := by
  unfold Machine.powerUpOrder
  split
  case h_1 | h_2 => exact h.startFor
  case h_3 => exact (QueuesOk.ite h.reclose h.reorderInNeutral).accept
  case h_4 => exact (QueuesOk.ite h h.leaveFor).accept
  case h_11 => exact h
  all_goals exact h.whileBusy

theorem changeoverOrder {k : SysId} : QueuesOk (changeoverOrder k s).state := by
  unfold Machine.changeoverOrder
  split
  case h_1 => exact h.startFor
  case h_2 => exact h.modCo.accept
  case h_3 => exact h.reorderInNeutral.accept
  case h_4 => exact (QueuesOk.ite h h.leaveFor).accept
  case h_11 => exact h
  all_goals exact h.whileBusy

theorem neutralAheadOrder : QueuesOk (neutralAheadOrder s).state := by
  unfold Machine.neutralAheadOrder
  split
  case h_3 => exact h.modCo.accept
  case h_4 => exact h.modCo.enterOpening.accept
  all_goals exact h

theorem sectionClearOrder : QueuesOk (sectionClearOrder s).state := by
  unfold Machine.sectionClearOrder
  split
  case h_1 =>
    split
    · exact h.startFor
    · exact h
  all_goals exact h

theorem heldOr {order : State → Reply} (own : QueuesOk (order s).state) : QueuesOk (heldOr order s).state := by
  unfold Machine.heldOr
  split
  · exact h
  · exact own

theorem systemOrder {order : SysId → State → Reply} (own : ∀ k, QueuesOk (order k s).state) {p : List Word} :
    QueuesOk (systemOrder order p s).state := by
  unfold Machine.systemOrder
  split
  · exact h
  · split
    · exact h
    · split
      · exact h
      · exact h.heldOr (own _)

theorem clearLockoutOrder : QueuesOk (clearLockoutOrder s).state := by
  unfold Machine.clearLockoutOrder
  split
  · exact h
  · split
    · exact h
    · exact h.modCo.enterIdle.accept

theorem gradedLowering {g : Nat} : QueuesOk (gradedLowering g s) := by
  have lowered (l : List Chan) : QueuesOk (l.foldl (fun t c => Machine.lowerByOther c .graded t) s) :=
    queuesOk_foldl (fun _ _ h => h.lowerByOther) l h
  simp only [Machine.gradedLowering]
  exact .ite (lowered _).gradedCollector (lowered _)

theorem loweringOrderReply {p : List Word} : QueuesOk (loweringOrderReply p s).state := by
  unfold Machine.loweringOrderReply
  split
  · exact h
  · split
    · exact h.gradedLowering.accept
    · exact h

theorem channelOrder {act : Chan → State → Reply} (own : ∀ c, QueuesOk (act c s).state) {p : List Word} :
    QueuesOk (channelOrder act p s).state := by
  unfold Machine.channelOrder
  split
  · exact h
  · split
    · exact h
    · exact own _

theorem becomeDown {c : Chan} : QueuesOk (becomeDown c s) := h.modChan.coOnChannel

theorem resetCore {c : Chan} : QueuesOk (resetCore c s) := by
  simp only [Machine.resetCore]
  split
  · exact h.modChan
  · exact h.modChan.clearSlotA

theorem resetChannel {c : Chan} : QueuesOk (resetChannel c s) := by
  simp only [Machine.resetChannel]
  split
  case h_1 | h_2 => exact h.resetCore.lowerByOther
  case h_3 => exact h.resetCore.modChan
  case h_4 => exact h.resetCore.becomeDown
  case h_5 => exact .ite h.resetCore.enterLowering.coOnChannel h.resetCore.becomeDown
  case h_6 => exact h.resetCore

theorem channelResetOrder {c : Chan} : QueuesOk (channelResetOrder c s).state := by
  unfold Machine.channelResetOrder
  split
  · exact h
  · split
    · exact h
    · exact h.resetChannel.accept

theorem channelLowerOrder {c : Chan} : QueuesOk (channelLowerOrder c s).state := by
  unfold Machine.channelLowerOrder
  split
  · exact h
  · split
    · exact h
    · split
      · exact h.lowerByOther.accept
      · exact h

theorem remapOrder {p : List Word} : QueuesOk (remapOrder p s).state := by
  unfold Machine.remapOrder
  split
  · split
    · split
      · exact h
      · split
        · exact h
        · exact h.frame rfl
    · exact h
  · exact h

theorem endRunAndLower {why : EndReason} : QueuesOk (endRunAndLower why s) := by
  unfold Machine.endRunAndLower
  split
  · exact h.endRun
  · exact h.endRun.lowerByOther

theorem setSeason {on : Bool} : QueuesOk (setSeason on s) :=
  have turned : QueuesOk { s with iceSeason := on, zones := s.zones.map (seasonTimer on) } := h.frame rfl
  .ite h (.ite turned turned.endRunAndLower)

theorem iceSeasonOrder {p : List Word} : QueuesOk (iceSeasonOrder p s).state := by
  unfold Machine.iceSeasonOrder
  split
  · exact h
  · split
    · exact h
    · exact h.setSeason.accept

theorem scrapeOrder : QueuesOk (scrapeOrder s).state := by
  unfold Machine.scrapeOrder
  split
  · exact h
  · split
    · exact h
    · split
      · exact h
      · exact h.startRun.accept

theorem depotAccessOrder {p : List Word} : QueuesOk (depotAccessOrder p s).state := by
  unfold Machine.depotAccessOrder
  split
  · exact h
  · split
    · exact h
    · exact h.modTakeover.accept

theorem noticeFilterOrder {p : List Word} : QueuesOk (noticeFilterOrder p s).state := by
  unfold Machine.noticeFilterOrder
  split
  · split
    · split
      · exact h
      · exact h.frame rfl
    · exact h
  · exact h

theorem partResetOrder : QueuesOk (partResetOrder s).state := by
  unfold Machine.partResetOrder
  split
  · exact h
  · exact h.frame rfl

/-! ### Part reset, completions and the request pin -/

theorem resetArbiter : QueuesOk (resetArbiter s) :=
  queuesOk_iff.2 { queuesOk_iff.1 h with
    classB := ⟨Nat.zero_le _, .nil⟩, classC := Nat.zero_le _, bypass := Nat.zero_le _ }

theorem resetTrain : QueuesOk (resetTrain s) := h.modTrain ⟨Nat.zero_le _, .nil⟩

theorem resetIntoLowering {c : Chan} : QueuesOk (resetIntoLowering c s) := h.modChan.lowerCore.faultNotice

theorem resetIntoDown {c : Chan} : QueuesOk (resetIntoDown c s) := h.modChan.faultNotice

theorem resetChan {c : Chan} : QueuesOk (resetChan s c) := by
  unfold Machine.resetChan
  split
  case h_1 => exact h
  case h_2 | h_3 | h_4 => exact h.resetIntoLowering
  all_goals exact .ite h.resetIntoLowering h.resetIntoDown

theorem resetChannels : QueuesOk (resetChannels s) := queuesOk_foldl (fun _ _ h => h.resetChan) _ h

theorem resetHeatOff {z : Zone} : QueuesOk (resetHeatOff s z) := .ite h.placeHeatOffUnlessMismatch h

theorem zones {v : Vector ZoneRec 10} {x : Option Nat} : QueuesOk { s with zones := v, stagger := x } := h.frame rfl

theorem resetScheduler : QueuesOk (resetScheduler s) := (queuesOk_foldl (fun _ _ h => h.resetHeatOff) _ h.modScrape).zones

theorem resetForward : QueuesOk (resetForward s) := h.modFwd (Nat.zero_le _)

theorem resetRoster : QueuesOk (resetRoster s) := h.frame rfl

theorem endOfReset : QueuesOk (endOfReset s) := by
  have announced := h.announceAbsent
  simp only [Machine.endOfReset]
  generalize Machine.announceAbsent s = t at announced ⊢
  exact .ite announced.announceRetry.evaluateTakeover announced.announceRetry

theorem partReset : QueuesOk (partReset s) :=
  h.resetArbiter.resetTrain.modRecog.resetChannels.modCo.resetScheduler.resetForward.resetRoster.endOfReset

theorem completeTakeover : QueuesOk (completeTakeover s) := .ite (.ite h.grant h.modTakeover) h

theorem roofComplete : QueuesOk (roofComplete s) := by
  unfold Machine.roofComplete
  split
  · exact h
  · exact h.modNode.modTx.completeTakeover

theorem trainComplete : QueuesOk (trainComplete s) := by
  simp only [Machine.trainComplete]
  split
  · exact h
  · have free : QueuesOk (s.modTrain fun t => { t with tx := none }) := h.modTrain h.notices
    exact .ite free.partReset free

theorem releaseGrant : QueuesOk (releaseGrant s) := h.modTakeover.gateChange.roofPick.announceAbsent

theorem requestDeasserted : QueuesOk (requestDeasserted s) := by
  simp only [Machine.requestDeasserted]
  split
  · exact h.modTakeover.releaseGrant
  · exact h.modTakeover.modTakeover
  · exact h.modTakeover

/-! ### Expiries and the clock -/

theorem expireSample : QueuesOk (expireSample s) := .ite h.sampleTimeoutExpired h
theorem expireRaiseWindow {c : Chan} : QueuesOk (expireRaiseWindow c s) := .ite h.chanFault h
theorem expireLowerWindow {c : Chan} : QueuesOk (expireLowerWindow c s) := .ite h.lowerWindowExpired h
theorem expireLowerRep {c : Chan} : QueuesOk (expireLowerRep c s) := .ite h.modChan.placeAChan h
theorem expireCooldown {c : Chan} : QueuesOk (expireCooldown c s) := .ite h.becomeDown h
theorem expireChanSustain {c : Chan} : QueuesOk (expireChanSustain c s) := .ite h.modChan.placeAChan h
theorem expireBreakerSustain : QueuesOk (expireBreakerSustain s) := .ite h.modCo.placeABreaker h
theorem expireOpenRep : QueuesOk (expireOpenRep s) := .ite h.openRepOn h
theorem expireRecognition : QueuesOk (expireRecognition s) := .ite h.enterCoLowering.queueNotice h
theorem expireSwitchWindow : QueuesOk (expireSwitchWindow s) := .ite h.enterLockout h
theorem expireSettle : QueuesOk (expireSettle s) := .ite h.enterClosing h
theorem expireCloseWindow : QueuesOk (expireCloseWindow s) := .ite h.enterLockout h
theorem expireOpenWindow : QueuesOk (expireOpenWindow s) := .ite h.enterLockout h
theorem expireNeutral : QueuesOk (expireNeutral s) := .ite h.enterCoLowering h
theorem expireTripQuiet : QueuesOk (expireTripQuiet s) := .ite h.modCo h
theorem expirePassTimer {z : Zone} : QueuesOk (expirePassTimer z s) := .ite h.passDue h
theorem expireStagger : QueuesOk (expireStagger s) := .ite h.stagger.startDecision h
theorem expirePass {z : Zone} : QueuesOk (expirePass z s) := .ite h.passComplete h
theorem expireScrape : QueuesOk (expireScrape s) := .ite h.endRunAndLower h

theorem expireAnnounce : QueuesOk (expireAnnounce s) := .ite h.announceRetry.announceAbsent h

theorem expireSilence : QueuesOk (expireSilence s) := by
  simp only [Machine.expireSilence]
  split
  · exact h
  · exact (h.modTrain h.notices).queueNotice.powerDown

theorem advance : QueuesOk (advance s) := h.frame rfl

theorem pending {l : List Instr} : QueuesOk { s with pending := l } := h.frame rfl

end

end QueuesOk

/-! ### Commands and steps -/

section
variable {s t : State}

theorem queuesOk_react {act : State → State} (h : QueuesOk (act s)) (e : react act s = .next t) : QueuesOk t := by
  cases e
  exact h.settle

/-- A management request whose own rule keeps the bounds, with what follows it. -/
theorem queuesOk_request {decide : State → Reply} {q c : Byte} (h : QueuesOk s)
    (own : ∀ {u}, QueuesOk u → QueuesOk (decide u).state) (e : react (manage q c decide) s = .next t) : QueuesOk t :=
  queuesOk_react (h.manage own) e

theorem exec_queuesOk {c : Instr} (h : QueuesOk s) (e : exec c s = .next t) : QueuesOk t := by
  cases c with
  | powerOnReset => cases e; exact queuesOk_reset.frame rfl
  | roofFrameIgnored => cases e; exact h
  | trainFrameIgnored => cases e; exact h.trainFrameTaken
  | roofFrameCheckFailure kind => exact queuesOk_react h.roofCheckFailed e
  | trainFrameCheckFailure kind => exact queuesOk_react h.trainCheckFailed e
  | sample | contact | breakerState | switchState | contactorState | announce | ack | unknownReport =>
    exact queuesOk_react h.takeRoofFrame e
  | unknownRequest => exact queuesOk_request h id e
  | readStatus q p => exact queuesOk_request h (fun h => (readRecord_isRead p _).state.symm ▸ h) e
  | readEntry q p => exact queuesOk_request h (fun h => (readTable_isRead p _).state.symm ▸ h) e
  | loadEntrySystem => exact queuesOk_request h (·.loadSystem) e
  | clearEntrySystem => exact queuesOk_request h (·.clearSystem) e
  | loadEntryPosition => exact queuesOk_request h (·.loadPosition) e
  | clearEntryPosition => exact queuesOk_request h (·.clearPosition) e
  | loadEntryZone => exact queuesOk_request h (·.loadZone) e
  | clearEntryZone => exact queuesOk_request h (·.clearZone) e
  | loadEntryNode => exact queuesOk_request h (·.loadNode) e
  | clearEntryNode => exact queuesOk_request h (·.clearNode) e
  | loadEntryWindow => exact queuesOk_request h (·.loadWindow) e
  | clearEntryWindow => exact queuesOk_request h (·.clearWindow) e
  | loadEntryInterlock => exact queuesOk_request h (·.loadInterlock) e
  | clearEntryInterlock => exact queuesOk_request h (·.clearInterlock) e
  | loadEntryConfig => exact queuesOk_request h (·.loadConfig) e
  | clearEntryConfig => exact queuesOk_request h (·.clearConfig) e
  | nodeCommand => exact queuesOk_react h.nodeCommandFrame e
  | powerUp => exact queuesOk_request h (fun h => h.systemOrder fun _ => h.powerUpOrder) e
  | changeover => exact queuesOk_request h (fun h => h.systemOrder fun _ => h.changeoverOrder) e
  | powerDown => exact queuesOk_request h (fun h => h.heldOr h.powerDown) e
  | neutralAhead => exact queuesOk_request h (fun h => h.heldOr h.neutralAheadOrder) e
  | sectionClear => exact queuesOk_request h (fun h => h.heldOr h.sectionClearOrder) e
  | clearLockout => exact queuesOk_request h (·.clearLockoutOrder) e
  | loweringOrder => exact queuesOk_request h (·.loweringOrderReply) e
  | channelReset => exact queuesOk_request h (fun h => h.channelOrder fun _ => h.channelResetOrder) e
  | channelLower => exact queuesOk_request h (fun h => h.channelOrder fun _ => h.channelLowerOrder) e
  | remap => exact queuesOk_request h (·.remapOrder) e
  | iceSeason => exact queuesOk_request h (·.iceSeasonOrder) e
  | scrape => exact queuesOk_request h (·.scrapeOrder) e
  | depotAccess => exact queuesOk_request h (·.depotAccessOrder) e
  | noticeFilter => exact queuesOk_request h (·.noticeFilterOrder) e
  | partReset => exact queuesOk_request h (·.partResetOrder) e
  | takeoverRequestAsserted => exact queuesOk_react h.modTakeover e
  | takeoverRequestDeasserted => exact queuesOk_react h.requestDeasserted e
  | roofTransmissionComplete => exact queuesOk_react h.roofComplete e
  | trainTransmissionComplete => exact queuesOk_react h.trainComplete e
  | sampleTimeout => exact queuesOk_react h.expireSample e
  | raiseWindowExpiry => exact queuesOk_react h.expireRaiseWindow e
  | lowerWindowExpiry => exact queuesOk_react h.expireLowerWindow e
  | lowerRepetition => exact queuesOk_react h.expireLowerRep e
  | cooldownExpiry => exact queuesOk_react h.expireCooldown e
  | channelSustainTimerExpiry => exact queuesOk_react h.expireChanSustain e
  | breakerSustainTimerExpiry => exact queuesOk_react h.expireBreakerSustain e
  | openRepetition => exact queuesOk_react h.expireOpenRep e
  | recognitionDeadlineExpiry => exact queuesOk_react h.expireRecognition e
  | switchWindowExpiry => exact queuesOk_react h.expireSwitchWindow e
  | settleIntervalExpiry => exact queuesOk_react h.expireSettle e
  | closeWindowExpiry => exact queuesOk_react h.expireCloseWindow e
  | openWindowExpiry => exact queuesOk_react h.expireOpenWindow e
  | neutralDeadlineExpiry => exact queuesOk_react h.expireNeutral e
  | tripQuietTimerExpiry => exact queuesOk_react h.expireTripQuiet e
  | passTimerExpiry => exact queuesOk_react h.expirePassTimer e
  | staggerTimerExpiry => exact queuesOk_react h.expireStagger e
  | passCompletion => exact queuesOk_react h.expirePass e
  | scrapeTimerExpiry => exact queuesOk_react h.expireScrape e
  | nodeSilence => exact queuesOk_react h.nodeSilenced e
  | ackDeadlineExpiry => exact queuesOk_react h.ackTimeout e
  | announceRetryTimerExpiry => exact queuesOk_react h.expireAnnounce e
  | trainLinkSilenceExpiry => exact queuesOk_react h.expireSilence e

end

/-- Settles O5: each operation keeps the bounds, one lemma per operation; what is placed finds its place free, or takes that of
another. -/
theorem queuesKeepTheirBounds : Obligations.QueuesKeepTheirBounds := by
  intro s t h e
  unfold step at e
  split at e
  · unfold idle at e
    split at e
    · cases e; exact h.advance
    · exact exec_queuesOk h e
  · exact exec_queuesOk h.pending e

end Sys2Proof.Machine

namespace Sys2Proof.Machine

/-! # Node commands

## The deciding window (R141) -/

section
variable {s : State} {n : Node} {l : Nat} {i : Fin 16} {w : WindowEntry}

/-- Slot i holds an entry of a level that covers the node. -/
def CoversAt (s : State) (n : Node) (l : Nat) (i : Fin 16) (w : WindowEntry) : Prop :=
  s.fwd.windows[i] = some w ∧ w.level = l ∧ w.first ≤ n ∧ n ≤ w.last

theorem mem_windows : w ∈ s.fwd.windows.toList.filterMap id ↔ ∃ i : Fin 16, s.fwd.windows[i] = some w := by
  simp [Vector.mem_iff_getElem, Fin.exists_iff]

theorem windowAt?_none (h : ∀ i w, ¬ CoversAt s n l i w) : windowAt? s l n = none := by
  refine List.find?_eq_none.2 fun w member here => ?_
  obtain ⟨i, held⟩ := mem_windows.1 member
  simp only [WindowEntry.covers, decide_eq_true_eq] at here
  exact h i w ⟨held, here⟩

theorem coversAt_of_windowAt? (h : windowAt? s l n = some w) : ∃ i, CoversAt s n l i w := by
  obtain ⟨i, held⟩ := mem_windows.1 (List.mem_of_find?_eq_some h)
  have here := List.find?_some h
  simp only [WindowEntry.covers, decide_eq_true_eq] at here
  exact ⟨i, held, here⟩

theorem windowAt?_some (here : CoversAt s n l i w) (only : ∀ j x, CoversAt s n l j x → x = w) : windowAt? s l n = some w := by
  obtain ⟨held, at_level, covers⟩ := here
  cases found : windowAt? s l n with
  | none =>
    have missed := List.find?_eq_none.1 found w (mem_windows.2 ⟨i, held⟩)
    exact absurd (decide_eq_true ⟨at_level, decide_eq_true covers⟩) missed
  | some x =>
    obtain ⟨j, other⟩ := coversAt_of_windowAt? found
    rw [only j x other]

theorem decidingWindow?_none (h : ∀ l i w, 1 ≤ l → l ≤ 3 → ¬ CoversAt s n l i w) : decidingWindow? s n = none := by
  have missing (l : Nat) (low : 1 ≤ l) (high : l ≤ 3) : windowAt? s l n = none := windowAt?_none fun i w => h l i w low high
  simp only [decidingWindow?, missing 1 (by decide) (by decide), missing 2 (by decide) (by decide),
    missing 3 (by decide) (by decide)]

/-- The window of the lowest level decides. -/
theorem decidingWindow?_some (low : 1 ≤ l) (high : l ≤ 3) (here : CoversAt s n l i w)
    (only : ∀ j x, CoversAt s n l j x → x = w) (below : ∀ m j x, 1 ≤ m → m < l → ¬ CoversAt s n m j x) :
    decidingWindow? s n = some w := by
  have found := windowAt?_some here only
  have missing (m : Nat) (least : 1 ≤ m) (less : m < l) : windowAt? s m n = none :=
    windowAt?_none fun j x => below m j x least less
  obtain rfl | rfl | rfl : l = 1 ∨ l = 2 ∨ l = 3 := by omega
  · simp only [decidingWindow?, found]
  · simp only [decidingWindow?, found, missing 1 (by decide) (by decide)]
  · simp only [decidingWindow?, found, missing 1 (by decide) (by decide), missing 2 (by decide) (by decide)]

end

/-! ## The interlock check (R145, R149) -/

section
variable {s : State} {r : Role} {c : Byte} {j : Fin 32} {e : InterlockEntry}

theorem interlock?_some (h : interlock? s r c = some (j, e)) : s.fwd.interlocks[j] = some e ∧ e.role = r ∧ e.code = c := by
  obtain ⟨i, _, found⟩ := List.exists_of_findSome?_eq_some h
  split at found
  case h_1 x held =>
    split at found
    case isTrue key => cases found; exact ⟨held, key⟩
    case isFalse => cases found
  case h_2 => cases found

theorem interlock?_none_iff : interlock? s r c = none ↔
    ∀ (j : Fin 32) e, s.fwd.interlocks[j] = some e → ¬ (e.role = r ∧ e.code = c) := by
  rw [interlock?, List.findSome?_eq_none_iff]
  refine ⟨fun h j e held key => ?_, fun h j _ => ?_⟩
  · have missed := h j (List.mem_finRange j)
    simp only [held, key, and_self, if_true] at missed
    cases missed
  · split
    case h_1 x held => exact if_neg (h j x held)
    case h_2 => rfl

/-- The slot found is the one that holds the key. -/
theorem interlock?_eq (held : s.fwd.interlocks[j] = some e) (key : e.role = r ∧ e.code = c)
    (only : ∀ (i : Fin 32) x, s.fwd.interlocks[i] = some x → x.role = r ∧ x.code = c → i = j) :
    interlock? s r c = some (j, e) := by
  cases found : interlock? s r c with
  | none => exact absurd key (interlock?_none_iff.1 found j e held)
  | some y =>
    obtain ⟨i, x⟩ := y
    obtain ⟨held', key'⟩ := interlock?_some found
    cases only i x held' key'
    cases held.symm.trans held'
    rfl

theorem chanCondHolds_iff (k : ChanCond) : chanCondHolds s k = true ↔
    (k = .allDown → ∀ d, moving s d = false) ∧ (k = .noCollector → ∀ d : Chan, s.channels[d].duty ≠ .collect) := by
  cases k <;> simp [chanCondHolds]

theorem zoneCondHolds_iff (k : ZoneCond) : zoneCondHolds s k = true ↔
    (k = .noneHeating → ∀ z : Zone, s.zones[z].state ≠ .heating) := by
  cases k <;> simp [zoneCondHolds]

theorem interlockHolds_iff : interlockHolds s e = true ↔ e.states.getLsbD s.co.state.value = true ∧
    (e.chan = .allDown → ∀ d, moving s d = false) ∧ (e.chan = .noCollector → ∀ d : Chan, s.channels[d].duty ≠ .collect) ∧
    (e.zone = .noneHeating → ∀ z : Zone, s.zones[z].state ≠ .heating) := by
  rw [interlockHolds, Bool.and_eq_true, Bool.and_eq_true, chanCondHolds_iff, zoneCondHolds_iff, and_assoc, and_assoc]

end

/-! ## The steps (R142 to R144) -/

section
variable {s : State} {n : Node} {c : Byte} {w : WindowEntry} {check : Bool}

theorem commandFate_unrouted (h : decidingWindow? s n = none) : commandFate s n c = .refuse .noRoute [] := by
  rw [commandFate, h]

theorem commandFate_drop (h : decidingWindow? s n = some w) (down : w.down = .drop) : commandFate s n c = .drop := by
  simp only [commandFate, h, down]

theorem commandFate_steps (h : decidingWindow? s n = some w) (down : w.down ≠ .drop) :
    commandFate s n c = commandSteps s (w.down = .chk) n c := by
  simp only [commandFate, h]
  cases e : w.down with
  | drop => exact absurd e down
  | _ => rfl

theorem commandSteps_reserved (low : c.toNat < 64) : commandSteps s check n c = .refuse .reservedCode [] := if_pos low

theorem commandSteps_noRole (high : 64 ≤ c.toNat) (role : s.nodes[n].role = .noRole) :
    commandSteps s check n c = .refuse .noRoute [] := by
  rw [commandSteps, if_neg (by omega), if_pos role]

theorem commandSteps_mismatch (high : 64 ≤ c.toNat) (role : s.nodes[n].role ≠ .noRole)
    (presence : s.nodes[n].presence = .mismatch) : commandSteps s check n c = .refuse .mismatch [] := by
  rw [commandSteps, if_neg (by omega), if_neg role, if_pos presence]

theorem commandSteps_silent (high : 64 ≤ c.toNat) (role : s.nodes[n].role ≠ .noRole)
    (presence : s.nodes[n].presence = .silent) : commandSteps s check n c = .refuse .silent [] := by
  rw [commandSteps, if_neg (by omega), if_neg role, if_neg (by rw [presence]; nofun), if_pos presence]

/-- With steps 1 to 3 passed, a grant decides, and then the window's own check. -/
theorem commandSteps_heard (high : 64 ≤ c.toNat) (role : s.nodes[n].role ≠ .noRole)
    (presence : s.nodes[n].presence = .absent ∨ s.nodes[n].presence = .present) : commandSteps s check n c =
      if granted s then .refuse .held [] else if check then interlockStep s n c else queueSpace s := by
  have matching : s.nodes[n].presence ≠ .mismatch := by rcases presence with e | e <;> rw [e] <;> nofun
  have heard : s.nodes[n].presence ≠ .silent := by rcases presence with e | e <;> rw [e] <;> nofun
  rw [commandSteps, if_neg (by omega), if_neg role, if_neg matching, if_neg heard]

end

/-! ## What the command leaves (R137, R145) -/

section
variable {s : State} {n : Node} {c : Byte} (h : Decides s) (q : Byte) (p : List Word)
include h

/-- A node command that arrives is decided by the state before it, since the silence timer is none of what the decision reads. -/
theorem exec_nodeCommand {v : State} (owed : v.owed = []) (decided : decideCommand n q c p (trainFrameTaken s) = v) :
    exec (.nodeCommand n q c p) s = .next (follows s v) := by
  refine react_eq_of (Eq.trans ?_ decided) owed
  have place : responsePlace (trainFrameTaken s) = true := decide_eq_true h.place
  have going : ¬ (trainFrameTaken s).train.resetPending = true := by
    change ¬ s.train.resetPending = true
    rw [h.going]
    nofun
  exact (if_neg going).trans (if_pos place)

omit h in
theorem commandFate_trainFrameTaken : commandFate (trainFrameTaken s) n c = commandFate s n c := rfl

theorem exec_nodeCommand_dropped (fate : commandFate s n c = .drop) : exec (.nodeCommand n q c p) s = .next (follows s { s with
    train := heard s, fwd := { s.fwd with discarded := min 65535 (s.fwd.discarded + 1) } }) := by
  refine exec_nodeCommand h q p h.owed ?_
  rw [decideCommand, commandFate_trainFrameTaken, fate]
  rfl

theorem exec_nodeCommand_refused {r : Result} {extra : List Word} (fate : commandFate s n c = .refuse r extra) :
    exec (.nodeCommand n q c p) s = .next (follows s { s with
      train := answered s q c r ([word (number n), c.zeroExtend 16] ++ extra),
      fwd := { s.fwd with refused := min 65535 (s.fwd.refused + 1) } }) := by
  refine exec_nodeCommand h q p h.owed ?_
  rw [decideCommand, commandFate_trainFrameTaken, fate]
  rfl

/-- A command that is left to step 6 joins class C where it has a place. -/
theorem exec_nodeCommand_queued (fate : commandFate s n c = queueSpace s) : exec (.nodeCommand n q c p) s =
    if 8 ≤ s.roof.classC.length then .next (follows s { s with
      train := answered s q c .full ([word (number n), c.zeroExtend 16] ++ []),
      fwd := { s.fwd with refused := min 65535 (s.fwd.refused + 1) } })
    else .next (follows s { s with
      train := heard s, fwd := { s.fwd with passed := min 65535 (s.fwd.passed + 1) },
      roof := { s.roof with classC := s.roof.classC ++ [⟨n, c, p, q⟩] } }) := by
  unfold queueSpace at fate
  split at fate
  case isTrue full => rw [if_pos full]; exact exec_nodeCommand_refused h q p fate
  case isFalse room =>
    rw [if_neg room]
    refine exec_nodeCommand h q p h.owed ?_
    rw [decideCommand, commandFate_trainFrameTaken, fate]
    rfl

end

/-- Settles O51: the deciding window is found, the steps are taken in order, and each fate leaves its own state. -/
theorem nodeCommandIsDecided : Obligations.NodeCommandIsDecided := by
  intro s n q c p h covers refused placed result
  refine ⟨fun none_covers => ?_, fun l i w low high here only below => ?_⟩
  · exact exec_nodeCommand_refused h q p (commandFate_unrouted (decidingWindow?_none none_covers))
  · have window : decidingWindow? s n = some w := decidingWindow?_some low high here only below
    refine ⟨fun down => exec_nodeCommand_dropped h q p (commandFate_drop window down), fun down => ?_⟩
    have steps : commandFate s n c = commandSteps s (w.down = .chk) n c := commandFate_steps window down
    refine ⟨fun reserved => exec_nodeCommand_refused h q p (steps.trans (commandSteps_reserved reserved)),
      fun code role => exec_nodeCommand_refused h q p (steps.trans (commandSteps_noRole code role)), fun code role => ?_⟩
    refine ⟨fun presence => exec_nodeCommand_refused h q p (steps.trans (commandSteps_mismatch code role presence)),
      fun presence => exec_nodeCommand_refused h q p (steps.trans (commandSteps_silent code role presence)), fun presence => ?_⟩
    rw [commandSteps_heard code role presence] at steps
    refine ⟨fun grant => exec_nodeCommand_refused h q p (steps.trans (if_pos grant)), fun free => ?_⟩
    intro key
    rw [if_neg (by rw [free]; nofun)] at steps
    refine ⟨fun pass => ?_, fun chk no_rule => ?_, fun chk j e held keyed only_key => ?_⟩
    · exact exec_nodeCommand_queued h q p (steps.trans (if_neg (by rw [pass]; decide)))
    · have interlock : interlockStep s n c = .refuse .noRule [s.co.state.code] := by
        rw [interlockStep, interlock?_none_iff.2 no_rule]
      exact exec_nodeCommand_refused h q p (steps.trans ((if_pos (decide_eq_true chk)).trans interlock))
    · intro holds
      have interlock : commandFate s n c =
          if interlockHolds s e then queueSpace s else .refuse .interlock [s.co.state.code, word (number j)] := by
        rw [steps, if_pos (decide_eq_true chk), interlockStep, interlock?_eq held keyed only_key]
      refine ⟨fun met => ?_, fun unmet => ?_⟩
      · exact exec_nodeCommand_queued h q p (interlock.trans (if_pos (interlockHolds_iff.2 met)))
      · exact exec_nodeCommand_refused h q p (interlock.trans (if_neg (mt interlockHolds_iff.1 unmet)))

end Sys2Proof.Machine

namespace Sys2Proof.Machine

/-! ## Copies for the mirror buffer (R141, R151, R152) -/

section
variable {s : State} {m : MirrorCopy} {w : WindowEntry}

theorem offerMirror_unrouted (h : decidingWindow? s m.src = none) : offerMirror m s = s := by rw [offerMirror, h]

/-- The deciding window's up mirror says whether a copy is taken (R151). -/
theorem offerMirror_decided (h : decidingWindow? s m.src = some w) :
    offerMirror m s = if w.mirror then takeCopy m s else s := by rw [offerMirror, h]

theorem takeCopy_room (h : s.fwd.mirror.length < 8) :
    takeCopy m s = { s with fwd := { s.fwd with mirror := s.fwd.mirror ++ [m] } } := if_pos h

theorem takeCopy_lost (h : 8 ≤ s.fwd.mirror.length) : takeCopy m s = { s with
    fwd := { s.fwd with mirrorLoss := min 65535 (s.fwd.mirrorLoss + 1) },
    train := noteNotice (.mirrorOverflow m.src m.cls m.code (min 65535 (s.fwd.mirrorLoss + 1))) s.train } :=
  if_neg (Nat.not_lt.2 h)

end

/-- Settles O24: the window of the lowest level decides, and a copy it asks for finds a place in the buffer or is lost. -/
theorem mirrorTakesCopies : Obligations.MirrorTakesCopies := by
  intro s m covers
  refine ⟨fun l i w low high here only below => ?_, fun none_covers => offerMirror_unrouted (decidingWindow?_none none_covers)⟩
  have decided := offerMirror_decided (decidingWindow?_some low high here only below)
  refine ⟨fun off => ?_, fun on room => ?_, fun on full => ?_⟩
  · rw [decided, off]; rfl
  · rw [decided, if_pos on, takeCopy_room room]
  · rw [decided, if_pos on, takeCopy_lost full]

end Sys2Proof.Machine

namespace Sys2Proof.Machine

/-! ## What the train transmitter picks (R157) -/

section
variable {s : State}

theorem trainPick_response (idle : s.train.tx = none) {r : Response} {l : List Response} (h : s.train.responses = r :: l) :
    trainPick s = s.modTrain fun t => { t with responses := l, tx := some (.response r) } := by
  simp only [trainPick, idle, Option.isSome_none, Bool.false_eq_true, if_false, h]

theorem trainPick_notice (idle : s.train.tx = none) (noResponse : s.train.responses = []) {n : Notice} {l : List Notice}
    (h : s.train.notices = n :: l) : trainPick s = s.modTrain (sendNotice n l) := by
  simp only [trainPick, idle, Option.isSome_none, Bool.false_eq_true, if_false, noResponse, h]

theorem trainPick_copy (idle : s.train.tx = none) (noResponse : s.train.responses = []) (noNotice : s.train.notices = [])
    {m : MirrorCopy} {l : List MirrorCopy} (h : s.fwd.mirror = m :: l) :
    trainPick s = (s.modFwd fun f => { f with mirror := l }).modTrain fun t => { t with tx := some (.copy m) } := by
  simp only [trainPick, idle, Option.isSome_none, Bool.false_eq_true, if_false, noResponse, noNotice, h]

theorem trainPick_nothing (noResponse : s.train.responses = []) (noNotice : s.train.notices = [])
    (noCopy : s.fwd.mirror = []) : trainPick s = s := by
  simp only [trainPick, noResponse, noNotice, noCopy, ite_self]

end

theorem tellLost_unmarked {t : Train} (h : t.overflow = false) : tellLost t = t := if_neg (by rw [h]; nofun)

theorem noteSent_overflow (d : NoticeData) (t : Train) : (noteSent d t).overflow = t.overflow := by
  unfold noteSent; split <;> rfl

/-- Without the overflow mark a notice that leaves sets its last-sent value and nothing more (R166, R167). -/
theorem sendNotice_unmarked {t : Train} (h : t.overflow = false) (n : Notice) (l : List Notice) : sendNotice n l t =
    noteSent n.data { t with notices := l, noticeSeq := t.noticeSeq + 1, tx := some (.notice t.noticeSeq n) } :=
  tellLost_unmarked ((noteSent_overflow ..).trans h)

/-- Settles O59: one equation of the pick for each queue that it serves, and of notices the two kinds that leave a last-sent value. -/
theorem trainPickTakesResponsesFirst : Obligations.TrainPickTakesResponsesFirst := by
  intro s idle
  refine ⟨fun r l waits => trainPick_response idle waits, fun noResponse => ⟨fun n l waits unmarked => ?_, fun noNotice => ?_⟩⟩
  · rw [trainPick_notice idle noResponse waits, State.modTrain, sendNotice_unmarked unmarked]
    obtain ⟨data, rep⟩ := n
    cases data with
    | lineChange => rfl
    | channelFault => rfl
    | _ => rfl
  · exact ⟨fun m l waits => trainPick_copy idle noResponse noNotice waits, trainPick_nothing noResponse noNotice⟩

end Sys2Proof.Machine

namespace Sys2Proof.Machine

/-! ## Train frames that are turned away (R137, R155, R159, R163) -/

section
variable {s : State}

/-- The exchange of R155 stands in front of every management request. -/
theorem exec_request {c : Instr} {q k : Byte} (h : request? c = some (q, k)) :
    ∃ rule, ∀ s, exec c s = react (manage q k rule) s := by
  cases c <;> cases h <;> exact ⟨_, fun _ => rfl⟩

theorem exec_request_discarded (owed : s.owed = []) {c : Instr} {q k : Byte} (request : request? c = some (q, k))
    (turned : s.train.resetPending = true ∨ 8 ≤ s.train.responses.length) : exec c s = .next (follows s { s with
      train := { heard s with reqDiscard := min 65535 (s.train.reqDiscard + 1) } }) := by
  obtain ⟨rule, manages⟩ := exec_request request
  rw [manages]
  exact react_eq_of (manage_discarded turned q k rule) owed

theorem nodeCommandFrame_resetPending (h : s.train.resetPending = true) (n : Node) (q c : Byte) (p : List Word) :
    nodeCommandFrame n q c p s = trainFrameTaken s := if_pos h

theorem nodeCommandFrame_full (going : s.train.resetPending = false) (h : 8 ≤ s.train.responses.length) (n : Node) (q c : Byte)
    (p : List Word) : nodeCommandFrame n q c p s = discardCommand (trainFrameTaken s) := by
  have going' : ¬ (trainFrameTaken s).train.resetPending = true := by
    change ¬ s.train.resetPending = true
    rw [going]; nofun
  have noPlace : ¬ responsePlace (trainFrameTaken s) = true := mt of_decide_eq_true (Nat.not_lt.2 h)
  exact (if_neg going').trans (if_neg noPlace)

/-! ### The freeze -/

theorem moving_iff (c : Chan) : moving s c = true ↔
    s.channels[c].state = .raising ∨ s.channels[c].state = .up ∨ s.channels[c].state = .lowering := by
  rw [moving, decide_eq_true_iff, raised_iff, or_assoc]

theorem frozen_iff : frozen s = true ↔
    (∃ c : Chan, s.channels[c].state = .raising ∨ s.channels[c].state = .up ∨ s.channels[c].state = .lowering) ∨
      (s.co.state ≠ .idle ∧ s.co.state ≠ .lockout) := by
  simp only [frozen, decide_eq_true_eq, List.any_eq_true, List.mem_finRange, true_and, moving_iff, not_or, ne_eq]

section
variable (h : frozen s = true) {e : List Word}
include h

theorem loadSystem_frozen (full : 15 ≤ e.length) : loadSystem e s = refuse s .frozen := by
  iterate 15
    rcases e with _ | ⟨_, e⟩
    · simp at full
  exact if_pos h

theorem loadPosition_frozen (full : 4 ≤ e.length) : loadPosition e s = refuse s .frozen := by
  iterate 4
    rcases e with _ | ⟨_, e⟩
    · simp at full
  exact if_pos h

theorem loadNode_frozen (full : 3 ≤ e.length) : loadNode e s = refuse s .frozen := by
  iterate 3
    rcases e with _ | ⟨_, e⟩
    · simp at full
  exact if_pos h

theorem loadWindow_frozen (full : 6 ≤ e.length) : loadWindow e s = refuse s .frozen := by
  iterate 6
    rcases e with _ | ⟨_, e⟩
    · simp at full
  exact if_pos h

theorem loadInterlock_frozen (full : 6 ≤ e.length) : loadInterlock e s = refuse s .frozen := by
  iterate 6
    rcases e with _ | ⟨_, e⟩
    · simp at full
  exact if_pos h

theorem clearSlot_frozen {n : Nat} (full : e ≠ []) (clear : Fin n → State) : clearSlot e s clear = refuse s .frozen := by
  obtain ⟨_, e, rfl⟩ := List.exists_cons_of_ne_nil full
  exact if_pos h

theorem clearSystem_frozen (full : e ≠ []) : clearSystem e s = refuse s .frozen := clearSlot_frozen h full _

theorem clearPosition_frozen (full : e ≠ []) : clearPosition e s = refuse s .frozen := clearSlot_frozen h full _

theorem clearWindow_frozen (full : e ≠ []) : clearWindow e s = refuse s .frozen := clearSlot_frozen h full _

theorem clearInterlock_frozen (full : e ≠ []) : clearInterlock e s = refuse s .frozen := clearSlot_frozen h full _

theorem clearNode_frozen (full : e ≠ []) : clearNode e s = refuse s .frozen := by
  obtain ⟨_, e, rfl⟩ := List.exists_cons_of_ne_nil full
  exact if_pos h

end

end

/-- Settles O37: the exchange turns a request or node command away before its own rule, and the freeze a load or clear before it
looks at the values. -/
theorem trainFramesTurnedAway : Obligations.TrainFramesTurnedAway := by
  intro s owed full counted
  refine ⟨fun c q k request turned => exec_request_discarded owed request turned, fun n q c p => ⟨fun pending => ?_,
    fun going noPlace => ?_⟩, fun going place freeze c q k request => ?_⟩
  · exact react_eq_of (nodeCommandFrame_resetPending pending n q c p) owed
  · exact react_eq_of (nodeCommandFrame_full going noPlace n q c p) owed
  · have decides : Decides s := ⟨owed, going, Nat.lt_of_not_le place⟩
    have freezes : frozen (trainFrameTaken s) = true := frozen_iff.2 freeze
    obtain ⟨rfl, e, ⟨rfl, words⟩ | ⟨rfl, words⟩ | ⟨rfl, words⟩ | ⟨rfl, words⟩ | ⟨rfl, words⟩⟩ |
      ⟨rfl, e, key, rfl | rfl | rfl | rfl | rfl⟩ := request
    · exact request_refused decides (loadSystem_frozen freezes words) nofun q 2
    · exact request_refused decides (loadPosition_frozen freezes words) nofun q 2
    · exact request_refused decides (loadNode_frozen freezes words) nofun q 2
    · exact request_refused decides (loadWindow_frozen freezes words) nofun q 2
    · exact request_refused decides (loadInterlock_frozen freezes words) nofun q 2
    · exact request_refused decides (clearSystem_frozen freezes key) nofun q 4
    · exact request_refused decides (clearPosition_frozen freezes key) nofun q 4
    · exact request_refused decides (clearNode_frozen freezes key) nofun q 4
    · exact request_refused decides (clearWindow_frozen freezes key) nofun q 4
    · exact request_refused decides (clearInterlock_frozen freezes key) nofun q 4

end Sys2Proof.Machine

namespace Sys2Proof.Machine

/-! ## Loads and clears of the Window Table and the Interlock Table (R139, R140, R148) -/

/-- A clear of an existing slot outside the freeze (R140, R148). -/
theorem clearSlot_thawed {s : State} (thaw : frozen s = false) {n : Nat} {i : Fin n} {slot : Word} (h : slot.toNat = number i)
    (rest : List Word) (clear : Fin n → State) : clearSlot (slot :: rest) s clear = accept (clear i) [] := by
  simp only [clearSlot, thaw, h, numbered?_number, Bool.false_eq_true, if_false]

theorem clearWindow_thawed {s : State} (thaw : frozen s = false) {i : Fin 16} {slot : Word} (h : slot.toNat = number i)
    (rest : List Word) : clearWindow (slot :: rest) s =
      accept (s.modFwd fun f => { f with windows := f.windows.set i none }) [] := clearSlot_thawed thaw h rest _

theorem clearInterlock_thawed {s : State} (thaw : frozen s = false) {i : Fin 32} {slot : Word} (h : slot.toNat = number i)
    (rest : List Word) : clearInterlock (slot :: rest) s =
      accept (s.modFwd fun f => { f with interlocks := f.interlocks.set i none }) [] := clearSlot_thawed thaw h rest _

section
variable {s : State} {i : Fin 16} {w : WindowEntry}

/-- Two windows of which neither is crossed and that meet cover an address in common. -/
theorem exists_covered_of_meets {v : WindowEntry} (hv : v.first ≤ v.last) (hw : w.first ≤ w.last) (h : v.meets w = true) :
    ∃ n : Node, v.first ≤ n ∧ n ≤ v.last ∧ w.first ≤ n ∧ n ≤ w.last := by
  obtain ⟨below, above⟩ := of_decide_eq_true h
  exact ⟨max v.first w.first, le_max_left .., max_le hv above, le_max_right .., max_le below hw⟩

theorem storeWindow_crossed (h : w.last < w.first) : storeWindow i w s = refuse s .badEntry := if_pos h

/-- A window that another slot's window of its level shares an address with is refused (R139). -/
theorem storeWindow_overlap (h : w.first ≤ w.last) {j : Fin 16} {x : WindowEntry} {n : Node} (other : j ≠ i)
    (held : s.fwd.windows[j] = some x) (level : x.level = w.level) (hx : x.first ≤ n ∧ n ≤ x.last)
    (hw : w.first ≤ n ∧ n ≤ w.last) : storeWindow i w s = refuse s .overlap := by
  have meets : x.meets w = true := meets_of_covers (n := n) (decide_eq_true hx) (decide_eq_true hw)
  rw [storeWindow, if_neg (not_lt.2 h), if_pos ((otherSlot_iff ..).2 ⟨j, x, other, held, by simp [level, meets]⟩)]

/-- A window that shares no address with the others of its level is taken (R139). -/
theorem storeWindow_ok (h : w.first ≤ w.last) (straight : ∀ (j : Fin 16) x, j ≠ i → s.fwd.windows[j] = some x → x.first ≤ x.last)
    (apart : ∀ (j : Fin 16) x (n : Node), j ≠ i → s.fwd.windows[j] = some x → x.level = w.level →
      ¬ (x.first ≤ n ∧ n ≤ x.last ∧ w.first ≤ n ∧ n ≤ w.last)) :
    storeWindow i w s = accept (s.modFwd fun f => { f with windows := f.windows.set i (some w) }) (w.words i) := by
  rw [storeWindow, if_neg (not_lt.2 h), if_neg]
  rw [otherSlot_iff]
  rintro ⟨j, x, other, held, both⟩
  obtain ⟨level, meets⟩ := Bool.and_eq_true_iff.1 both
  obtain ⟨n, covered⟩ := exists_covered_of_meets (straight j x other held) h meets
  exact apart j x n other held (of_decide_eq_true level) covered

theorem onOff?_flag (b : Bool) : onOff? (if b then 1 else 0) = some b := by cases b <;> rfl

/-- A window load with fields in range comes to the store of the entry with its level clamped (R139). -/
theorem loadWindow_stores (thaw : frozen s = false) {a b : Node} {d : DownAction} {slot first last level down : Word}
    (slot_eq : slot.toNat = number i) (first_eq : first.toNat = number a) (last_eq : last.toNat = number b)
    (down_eq : downAction? down = some d) (m : Bool) (rest : List Word) :
    loadWindow (slot :: first :: last :: level :: down :: (if m then 1 else 0) :: rest) s =
      storeWindow i { first := a, last := b, level := max 1 (min 3 level.toNat), down := d, mirror := m } s := by
  simp only [loadWindow, thaw, slot_eq, first_eq, last_eq, numbered?_number, down_eq, onOff?_flag, clamp, Bool.false_eq_true,
    if_false]

end

section
variable {s : State} {i : Fin 32} {e : InterlockEntry}

/-- Another slot holds the role and code of an interlock entry (R148). -/
def KeyHeld (s : State) (i : Fin 32) (e : InterlockEntry) : Prop :=
  ∃ (j : Fin 32) (x : InterlockEntry), j ≠ i ∧ s.fwd.interlocks[j] = some x ∧ x.role = e.role ∧ x.code = e.code

theorem keyHeld_iff : KeyHeld s i e ↔
    otherSlot s.fwd.interlocks i (fun x => decide (x.role = e.role) && decide (x.code = e.code)) = true := by
  simp only [KeyHeld, otherSlot_iff, Bool.and_eq_true, decide_eq_true_eq]

theorem storeInterlock_duplicate (held : KeyHeld s i e) : storeInterlock i e s = refuse s .duplicate :=
  if_pos (keyHeld_iff.1 held)

theorem storeInterlock_ok (free : ¬ KeyHeld s i e) : storeInterlock i e s =
    accept (s.modFwd fun f => { f with interlocks := f.interlocks.set i (some e) }) (e.words i) := if_neg (mt keyHeld_iff.2 free)

theorem forwardCode?_eq {w : Word} {c : Byte} (high : 64 ≤ w.toNat) (h : w.toNat = c.toNat) : forwardCode? w = some c := by
  have byte : w.toNat ≤ 255 := by omega
  rw [forwardCode?, if_pos ⟨high, byte⟩, Option.some.injEq]
  exact BitVec.eq_of_toNat_eq (by rw [BitVec.truncate, BitVec.toNat_setWidth, h, Nat.mod_eq_of_lt c.isLt])

theorem stateSet?_eq {w : Word} {b : BitVec 11} (some_state : w ≠ 0) (h : w.toNat = b.toNat) : stateSet? w = some b := by
  have bits : w.toNat < 2048 := h ▸ b.isLt
  rw [stateSet?, if_pos ⟨some_state, bits⟩, Option.some.injEq]
  exact BitVec.eq_of_toNat_eq (by rw [BitVec.truncate, BitVec.toNat_setWidth, h, Nat.mod_eq_of_lt b.isLt])

/-- An interlock load with fields in range comes to the store of its entry (R148). -/
theorem loadInterlock_stores (thaw : frozen s = false) {slot role code states chan zone : Word} (slot_eq : slot.toNat = number i)
    (role_eq : loadableRole? role = some e.role) (high : 64 ≤ code.toNat) (code_eq : code.toNat = e.code.toNat)
    (some_state : states ≠ 0) (states_eq : states.toNat = e.states.toNat) (chan_eq : chanCond? chan = some e.chan)
    (zone_eq : zoneCond? zone = some e.zone) (rest : List Word) :
    loadInterlock (slot :: role :: code :: states :: chan :: zone :: rest) s = storeInterlock i e s := by
  simp only [loadInterlock, thaw, slot_eq, numbered?_number, role_eq, forwardCode?_eq high code_eq,
    stateSet?_eq some_state states_eq, chan_eq, zone_eq, Bool.false_eq_true, if_false]

end

/-- Settles O40: outside the freeze a load with fields in range comes to the store of its entry, which looks at the other slots, and
a clear empties its slot. -/
theorem windowAndInterlockLoadAndClear : Obligations.WindowAndInterlockLoadAndClear := by
  intro s q slot rest h thaw
  have thaw' : frozen (trainFrameTaken s) = false := thaw
  refine ⟨fun i a b d first last level down m slot_eq first_eq last_eq down_eq => ?_,
    fun i e role code states chan zone slot_eq role_eq high code_eq some_state states_eq chan_eq zone_eq => ?_⟩
  · intro w load shared crossed
    have stores := loadWindow_stores (level := level) thaw' slot_eq first_eq last_eq down_eq m rest
    refine ⟨fun bad => ?_, fun straight meets => ?_, fun straight apart none_crossed => ?_, ?_⟩
    · exact request_refused h (stores.trans (storeWindow_crossed bad)) nofun q 2
    · obtain ⟨j, x, n, other, held, same_level, low, high, low', high'⟩ := meets
      have overlaps := storeWindow_overlap (s := trainFrameTaken s) (w := w) straight other held same_level ⟨low, high⟩ ⟨low', high'⟩
      exact request_refused h (stores.trans overlaps) nofun q 2
    · have taken := storeWindow_ok (s := trainFrameTaken s) (w := w) (i := i) straight
        (fun j x other held => not_lt.1 fun lt => none_crossed ⟨j, x, other, held, lt⟩)
        fun j x n other held same_level covered => apart ⟨j, x, n, other, held, same_level, covered⟩
      exact request_answered h (stores.trans taken) nofun h.owed q 2
    · exact request_answered h (clearWindow_thawed thaw' slot_eq rest) nofun h.owed q 4
  · intro load held
    have stores := loadInterlock_stores thaw' slot_eq role_eq high code_eq some_state states_eq chan_eq zone_eq rest
    refine ⟨fun taken => ?_, fun free => ?_, ?_⟩
    · exact request_refused h (stores.trans (storeInterlock_duplicate taken)) nofun q 2
    · exact request_answered h (stores.trans (storeInterlock_ok free)) nofun h.owed q 2
    · exact request_answered h (clearInterlock_thawed thaw' slot_eq rest) nofun h.owed q 4

end Sys2Proof.Machine

namespace Sys2Proof.Machine

/-! ## How a notice enters the Notice Queue (R165 to R167) -/

theorem map_append_cons_of_fixed {α : Type} {f : α → α} {a b : List α} (x : α) (fixed : ∀ y ∈ a ++ b, f y = y) :
    (a ++ x :: b).map f = a ++ f x :: b := by
  rw [List.forall_mem_append] at fixed
  rw [List.map_append, List.map_cons, List.map_congr_left fixed.1, List.map_congr_left fixed.2, List.map_id', List.map_id']

/-- A notice that the filter holds back: its kind is under "changes only" and its value is the one last sent (R167). -/
def HeldBack (t : Train) (d : NoticeData) : Prop :=
  t.filter[d.kind.index] = true ∧ ((∃ new old dv a f c, d = .lineChange new old dv a f c ∧ t.lastLine = some new) ∨
    (∃ ch f e k n l, d = .channelFault ch f e k n l ∧ t.lastFault[ch] = some f))

section
variable {t : Train} {d : NoticeData}

theorem heldBack_iff : HeldBack t d ↔ filtered t d = true := by
  unfold HeldBack filtered
  rw [Bool.and_eq_true]
  refine and_congr_right fun _ => ?_
  cases d with
  | lineChange new => simp
  | channelFault ch fault => simp
  | _ => simp

theorem noteNotice_heldBack (held : HeldBack t d) : noteNotice d t = t := if_pos (heldBack_iff.1 held)

theorem noteNotice_passed (passes : ¬ HeldBack t d) : noteNotice d t =
    if ∃ n ∈ t.notices, n.data.key = d.key then { t with notices := coalesce d t.notices }
    else if t.notices.length < 32 then { t with notices := t.notices ++ [{ data := d, rep := 1 }] }
    else { t with overflow := true, dropped := min 65535 (t.dropped + 1), lost := min 65535 (t.lost + 1) } := by
  rw [noteNotice, if_neg (mt heldBack_iff.2 passes)]
  simp only [List.any_eq_true, decide_eq_true_eq, satSucc]

/-- The one waiting notice of the key keeps its place (R165). -/
theorem coalesce_append_cons {a b : List Notice} {n : Notice} (same : n.data.key = d.key)
    (others : ∀ y ∈ a ++ b, y.data.key ≠ d.key) :
    coalesce d (a ++ n :: b) = a ++ { data := d, rep := min 255 (n.rep + 1) } :: b := by
  rw [coalesce, map_append_cons_of_fixed n fun y hy => if_neg (others y hy), if_pos same, satSucc]

end

/-! ## NOTICES-LOST (R166) -/

section
variable {t : Train}

theorem addLost_of_ne {n : Notice} (h : n.data.kind ≠ .noticesLost) (k : Nat) : addLost k n = n := by
  unfold addLost
  split
  case h_1 e => exact absurd (congrArg NoticeData.kind e) h
  case h_2 => rfl

theorem tellLost_marked (marked : t.overflow = true) : tellLost t =
    { t with
      overflow := false, dropped := 0,
      notices := if ∃ n ∈ t.notices, n.data.kind = .noticesLost then t.notices.map (addLost t.dropped)
                 else t.notices ++ [{ data := .noticesLost t.dropped, rep := 1 }] } := by
  rw [tellLost, if_pos marked]
  simp only [List.any_eq_true, decide_eq_true_eq]

theorem noteSent_dropped (d : NoticeData) (t : Train) : (noteSent d t).dropped = t.dropped := by
  unfold noteSent; split <;> rfl

theorem noteSent_lost (d : NoticeData) (t : Train) : (noteSent d t).lost = t.lost := by unfold noteSent; split <;> rfl

/-- A notice that leaves with the mark set clears mark and dropped count, and its loss is told among the rest (R166). -/
theorem sendNotice_marked (marked : t.overflow = true) (n : Notice) (rest : List Notice) :
    (sendNotice n rest t).notices =
      (if ∃ n ∈ rest, n.data.kind = .noticesLost then rest.map (addLost t.dropped)
       else rest ++ [{ data := .noticesLost t.dropped, rep := 1 }]) ∧
    (sendNotice n rest t).overflow = false ∧ (sendNotice n rest t).dropped = 0 ∧ (sendNotice n rest t).lost = t.lost := by
  rw [sendNotice, tellLost_marked]
  · simp only [noteSent_notices, noteSent_dropped, noteSent_lost, and_self]
  · exact (noteSent_overflow ..).trans marked

end

/-- Settles O60: past the filter the queue's three outcomes depend on a waiting notice of the key and on the room, and a notice
that leaves under the mark finds NOTICES-LOST waiting or adds it. -/
theorem noticeQueueCoalescesAndCountsLosses : Obligations.NoticeQueueCoalescesAndCountsLosses := by
  refine ⟨fun t d => ⟨noteNotice_heldBack, fun passes => ⟨fun a n b waiting same others => ?_, fun new room => ?_,
    fun new full => ?_⟩⟩, fun n rest t marked => ?_⟩
  · have known : ∃ n ∈ t.notices, n.data.key = d.key := ⟨n, by simp [waiting], same⟩
    rw [noteNotice_passed passes, if_pos known, waiting, coalesce_append_cons same others]
  · rw [noteNotice_passed passes, if_neg (by simpa using new), if_pos room]
  · rw [noteNotice_passed passes, if_neg (by simpa using new), if_neg (Nat.not_lt.2 full)]
  · obtain ⟨notices, cleared⟩ := sendNotice_marked marked n rest
    refine ⟨fun new => ?_, fun a k r b waiting others => ?_, cleared⟩
    · rw [notices, if_neg (by simpa using new)]
    · have known : ∃ n ∈ rest, n.data.kind = .noticesLost := ⟨⟨.noticesLost k, r⟩, by simp [waiting], rfl⟩
      rw [notices, if_pos known, waiting, map_append_cons_of_fixed _ fun y hy => addLost_of_ne (others y hy) _]
      rfl

end Sys2Proof.Machine

namespace Sys2Proof.Machine

/-! ## The check word (R180)

The check register sees only the sum of register and word (`crcWord_eq_xor`), and the entry of a bit loses nothing of the register
(`crcBit_injective`); so a difference in one word is never lost again. -/

theorem crcBit_eq_xor (reg : Word) (b : Bool) : crcBit reg b = reg <<< 1 ^^^ if reg.msb ^^ b then 0x8005 else 0 := by
  unfold crcBit; split <;> simp_all

/-- The generator is odd: the lowest bit shows whether it was added. -/
theorem crcBit_getLsbD_zero (reg : Word) (b : Bool) : (crcBit reg b).getLsbD 0 = (reg.msb ^^ b) := by
  rw [crcBit_eq_xor]; split <;> simp_all

theorem eq_of_msb_eq_of_shiftLeft_eq {u v : Word} (top : u.msb = v.msb) (shifted : u <<< 1 = v <<< 1) : u = v := by
  simp only [BitVec.msb_eq_decide, decide_eq_decide] at top
  have low : (u <<< 1).toNat = (v <<< 1).toNat := congrArg _ shifted
  simp only [BitVec.toNat_shiftLeft] at low
  apply BitVec.eq_of_toNat_eq
  omega

theorem crcBit_injective (b : Bool) : Function.Injective (crcBit · b) := by
  intro u v (same : crcBit u b = crcBit v b)
  have top : u.msb = v.msb := by
    simpa only [crcBit_getLsbD_zero, Bool.xor_left_inj] using congrArg (BitVec.getLsbD · 0) same
  refine eq_of_msb_eq_of_shiftLeft_eq top ?_
  simpa only [crcBit_eq_xor, top, BitVec.xor_left_inj] using same

theorem foldl_injective {α β : Type} {f : α → β → α} (inj : ∀ b, Function.Injective (f · b)) :
    ∀ l : List β, Function.Injective (l.foldl f ·)
  | [] => fun _ _ same => same
  | b :: l => fun _ _ same => inj b (foldl_injective inj l same)

/-- Of a word added to the register, the topmost bit is undone by the same bit entering, and the rest moves up. -/
theorem crcBit_xor_msb (reg w : Word) : crcBit (reg ^^^ w) w.msb = crcBit reg false ^^^ w <<< 1 := by
  have top : ((reg ^^^ w).msb ^^ w.msb) = (reg.msb ^^ false) := by simp [BitVec.msb_xor]
  rw [crcBit_eq_xor, crcBit_eq_xor, top, BitVec.shiftLeft_xor_distrib]
  ac_rfl

/-- After the first `n` bits of a word the register is that of `n` zero bits entered on the sum, apart from the bits still to
enter. -/
theorem foldl_crcBit_msb (reg w : Word) (n : Nat) :
    ((List.range n).map fun i => (w <<< i).msb).foldl crcBit reg =
      (List.replicate n false).foldl crcBit (reg ^^^ w) ^^^ w <<< n := by
  induction n with
  | zero => simp
  | succ n ih =>
    rw [List.range_succ, List.map_append, List.foldl_append, ih, List.replicate_succ', List.foldl_append]
    exact (crcBit_xor_msb _ _).trans (by rw [BitVec.shiftLeft_add]; rfl)

theorem bitsOf_eq_msb (w : Word) : bitsOf w = (List.range 16).map fun i => (w <<< i).msb := by
  rw [← List.map_coe_finRange_eq_range, List.map_map]
  refine List.map_congr_left fun i _ => ?_
  have inside : ¬ 15 < i.val := by omega
  simp only [Function.comp_apply, BitVec.msb_eq_getLsbD_last, BitVec.getLsbD_shiftLeft, inside]
  simp

/-- A word enters the check register as 16 zero bits do once it has been added. -/
theorem crcWord_eq_xor (reg w : Word) : crcWord reg w = (List.replicate 16 false).foldl crcBit (reg ^^^ w) := by
  rw [crcWord, bitsOf_eq_msb, foldl_crcBit_msb, BitVec.shiftLeft_eq_zero (le_refl 16), BitVec.xor_zero]

theorem crcWord_injective_register (w : Word) : Function.Injective (crcWord · w) :=
  foldl_injective crcBit_injective (bitsOf w)

theorem crcWord_injective_word (reg : Word) : Function.Injective (crcWord reg) := by
  intro u v same
  rw [crcWord_eq_xor, crcWord_eq_xor] at same
  exact (BitVec.xor_right_inj reg).1 (foldl_injective crcBit_injective _ same)

theorem checkWord_append_cons (a b : List Word) (x : Word) :
    checkWord (a ++ x :: b) = b.foldl crcWord (crcWord (checkWord a) x) := by
  rw [checkWord, List.foldl_append, List.foldl_cons, checkWord]

theorem checkWord_ne_of_ne (a b : List Word) {x y : Word} (differ : x ≠ y) :
    checkWord (a ++ x :: b) ≠ checkWord (a ++ y :: b) := by
  rw [checkWord_append_cons, checkWord_append_cons]
  exact fun same => differ (crcWord_injective_word _ (foldl_injective crcWord_injective_register b same))

/-! ## The judging of a received frame (R180) -/

section
variable {body : List Word}

theorem judgeFrame_of_wrong_check {k : Word} (wrong : k ≠ checkWord body) : judgeFrame (body ++ [k]) = .bad .check := by
  rw [judgeFrame, if_pos (by simp [wrong])]

theorem judgeFrame_of_right_check (long : 3 ≤ body.length) : judgeFrame (body ++ [checkWord body]) = judgeBody body := by
  rw [judgeFrame, if_neg (by simp; omega), List.dropLast_concat]

end

/-! ## The header words of a frame (11.1) -/

theorem frameClass?_code (c : FrameClass) : frameClass? c.code = some c := by cases c <;> rfl

theorem fields?_header (f : Frame) : fields? (f.dest ++ f.src ++ f.cls.code) (f.seq ++ f.code) f.payload = some f := by
  have dest : (f.dest ++ f.src ++ f.cls.code).extractLsb' 10 6 = f.dest :=
    (BitVec.extractLsb'_append_eq_of_le (by decide)).trans BitVec.extractLsb'_append_eq_left
  have src : (f.dest ++ f.src ++ f.cls.code).extractLsb' 4 6 = f.src :=
    (BitVec.extractLsb'_append_eq_of_le (by decide)).trans BitVec.extractLsb'_append_eq_right
  have cls : (f.dest ++ f.src ++ f.cls.code).extractLsb' 0 4 = f.cls.code := BitVec.extractLsb'_append_eq_right
  have seq : (f.seq ++ f.code).extractLsb' 8 8 = f.seq := BitVec.extractLsb'_append_eq_left
  have code : (f.seq ++ f.code).extractLsb' 0 8 = f.code := BitVec.extractLsb'_append_eq_right
  rw [fields?, dest, src, cls, seq, code, frameClass?_code, Option.map_some]

theorem lengthField_toNat {payload : List Word} (fits : payload.length ≤ 30) :
    ((0#11 ++ lengthField payload).extractLsb' 0 5).toNat = payload.length := by
  rw [BitVec.extractLsb'_append_eq_right, lengthField, if_pos fits, BitVec.toNat_ofNat]
  omega

theorem judgeBody_body (f : Frame) (fits : f.payload.length ≤ 30) : judgeBody f.body = .good f := by
  rw [Frame.body, judgeBody, lengthField_toNat fits, if_neg (by omega), fields?_header]

/-- Settles O14: the frame's own check word agrees, its length field counts the payload, and each field is read from the bits it was
put in. -/
theorem framesReadBackAsBuilt : Obligations.FramesReadBackAsBuilt := by
  intro f fits
  rw [Frame.words, judgeFrame_of_right_check (by simp [Frame.body]), judgeBody_body f fits]

/-- Settles O15: the altered word changes the check register, and the entry of the words after it keeps the registers apart. -/
theorem checkWordSeesOneChangedWord : Obligations.CheckWordSeesOneChangedWord := fun a b _ _ differ =>
  ⟨checkWord_ne_of_ne a b differ, judgeFrame_of_wrong_check (checkWord_ne_of_ne a b differ.symm)⟩

end Sys2Proof.Machine

namespace Sys2Proof.Machine

/-! # The queue of waiting commands and the clock (log 1, log 2)

`State.outer` holds the waiting commands, so what the blocks' reactions leave of it stands in the part on the roof link. What is left
are the operations that change the roof frame in transmission or the takeover. -/

theorem outer_pending {s t : State} (h : t.outer = s.outer) : t.pending = s.pending := congrArg Outer.pending h

section
variable (s : State)

/-! ## The takeover and the roof transmitter -/

theorem gateChange_pending (was : Bool) : (gateChange was s).pending = s.pending := outer_pending (outer_gateChange ..)

theorem announceAbsent_pending : (announceAbsent s).pending = s.pending := outer_pending (outer_announceAbsent s)

theorem grant_pending : (grant s).pending = s.pending := gateChange_pending ..

theorem roofPick_pending : (roofPick s).pending = s.pending := by
  obtain ⟨_, _, picks⟩ := roofPick_eq s
  rw [picks]

theorem evaluateTakeover_pending : (evaluateTakeover s).pending = s.pending := by
  unfold evaluateTakeover
  split
  case h_1 =>
    split
    · split
      · exact grant_pending s
      · rfl
    · rfl
  case h_2 => split <;> rfl
  case h_3 => rfl

theorem completeTakeover_pending : (completeTakeover s).pending = s.pending := by
  unfold completeTakeover
  split
  · split
    · exact grant_pending s
    · rfl
  · rfl

theorem releaseGrant_pending : (releaseGrant s).pending = s.pending := by
  rw [releaseGrant, announceAbsent_pending, roofPick_pending, gateChange_pending]
  rfl

theorem requestDeasserted_pending : (requestDeasserted s).pending = s.pending := by
  simp only [requestDeasserted]
  split
  · exact releaseGrant_pending _
  · rfl
  · rfl

/-! ## Completions and part reset -/

theorem roofComplete_pending : (roofComplete s).pending = s.pending := by
  unfold roofComplete
  split
  · rfl
  · exact completeTakeover_pending _

theorem endOfReset_pending : (endOfReset s).pending = s.pending := by
  simp only [endOfReset]
  split
  · rw [evaluateTakeover_pending, announceAbsent_pending]
  · rw [announceAbsent_pending]

theorem partReset_pending : (partReset s).pending = s.pending := by
  rw [partReset, endOfReset_pending, outer_pending (outer_resetRoster _), outer_pending (outer_resetForward _),
    outer_pending (outer_resetScheduler _), resetChangeover, State.modCo_pending, outer_pending (outer_resetChannels _)]
  rfl

theorem trainComplete_pending : (trainComplete s).pending = s.pending := by
  simp only [trainComplete]
  split
  · rfl
  · split
    · exact partReset_pending _
    · rfl

/-! ## Requests, and what follows a command -/

theorem noteHeld_pending (r : Result) : (noteHeld r s).pending = s.pending := by unfold noteHeld; split <;> rfl

theorem depotAccessOrder_pending (p : List Word) : (depotAccessOrder p s).state.pending = s.pending := by
  unfold depotAccessOrder
  split
  · rfl
  · split <;> rfl

theorem manage_pending {decide : State → Reply} (same : ∀ s, (decide s).state.pending = s.pending) (q c : Byte) :
    (manage q c decide s).pending = s.pending := by
  simp only [manage]
  split
  · rfl
  · exact (noteHeld_pending ..).trans (same _)

theorem settle_pending (was : State) : (settle was s).pending = s.pending := by
  obtain ⟨_, evaluates⟩ := takeoverAfter_eq (drain s) was
  calc (settle was s).pending
      = (roofPick (takeoverAfter was (drain s))).pending := outer_pending (outer_trainPick _)
    _ = (takeoverAfter was (drain s)).pending := roofPick_pending _
    _ = (drain s).pending := by rw [evaluates]
    _ = s.pending := outer_pending (outer_drain s)

end

/-! ## Commands -/

section
variable {s t : State}

/-- A command whose action keeps the waiting commands keeps them. -/
theorem react_pending {act : State → State} (same : (act s).pending = s.pending) (e : react act s = .next t) :
    t.pending = s.pending := by
  cases e
  exact (settle_pending _ s).trans same

theorem react_pending_of_outer {act : State → State} (same : (act s).outer = s.outer) (e : react act s = .next t) :
    t.pending = s.pending :=
  react_pending (outer_pending same) e

/-- A management request whose own rule keeps `outer` keeps the waiting commands. -/
theorem request_pending {decide : State → Reply} (same : ∀ s, (decide s).state.outer = s.outer) {q c : Byte}
    (e : react (manage q c decide) s = .next t) : t.pending = s.pending :=
  react_pending (manage_pending s (fun s => outer_pending (same s)) q c) e

theorem exec_pending {c : Instr} (e : exec c s = .next t) : t.pending = s.pending := by
  cases c with
  | powerOnReset => cases e; rfl
  | roofFrameIgnored => cases e; rfl
  | trainFrameIgnored => cases e; rfl
  | takeoverRequestAsserted => exact react_pending (act := requestAsserted) rfl e
  | takeoverRequestDeasserted => exact react_pending (requestDeasserted_pending s) e
  | roofTransmissionComplete => exact react_pending (roofComplete_pending s) e
  | trainTransmissionComplete => exact react_pending (trainComplete_pending s) e
  | depotAccess q p => exact react_pending (manage_pending s (depotAccessOrder_pending · p) q _) e
  | roofFrameCheckFailure kind => exact react_pending (act := roofCheckFailed kind) rfl e
  | trainFrameCheckFailure kind => exact react_pending (act := trainCheckFailed kind) rfl e
  | sample n q p => exact react_pending_of_outer (outer_takeRoofFrame s n q _) e
  | contact n q p | breakerState n q p | switchState n q p | contactorState n q p | announce n q p =>
    exact react_pending_of_outer (outer_takeRoofFrame s n q _) e
  | ack n q k p | unknownReport n q k p => exact react_pending_of_outer (outer_takeRoofFrame s n q _) e
  | nodeCommand n q k p => exact react_pending_of_outer (outer_nodeCommandFrame s n q k p) e
  | unknownRequest q k p => exact request_pending (fun _ => rfl) e
  | readStatus q p => exact request_pending (fun s => congrArg State.outer (readRecord_isRead p s).state) e
  | readEntry q p => exact request_pending (fun s => congrArg State.outer (readTable_isRead p s).state) e
  | loadEntrySystem q x => exact request_pending (outer_loadSystem · x) e
  | loadEntryPosition q x => exact request_pending (outer_loadPosition · x) e
  | loadEntryZone q x => exact request_pending (outer_loadZone · x) e
  | loadEntryNode q x => exact request_pending (outer_loadNode · x) e
  | loadEntryWindow q x => exact request_pending (outer_loadWindow · x) e
  | loadEntryInterlock q x => exact request_pending (outer_loadInterlock · x) e
  | loadEntryConfig q x => exact request_pending (outer_loadConfig · x) e
  | clearEntrySystem q x => exact request_pending (outer_clearSystem · x) e
  | clearEntryPosition q x => exact request_pending (outer_clearPosition · x) e
  | clearEntryZone q x => exact request_pending (outer_clearZone · x) e
  | clearEntryNode q x => exact request_pending (outer_clearNode · x) e
  | clearEntryWindow q x => exact request_pending (outer_clearWindow · x) e
  | clearEntryInterlock q x => exact request_pending (outer_clearInterlock · x) e
  | clearEntryConfig q x => exact request_pending (outer_clearConfig · x) e
  | powerUp q p => exact request_pending (fun s => outer_systemOrder s (outer_powerUpOrder s) p) e
  | changeover q p => exact request_pending (fun s => outer_systemOrder s (outer_changeoverOrder s) p) e
  | powerDown q p => exact request_pending (fun s => outer_heldOr s (outer_powerDown s)) e
  | neutralAhead q p => exact request_pending (fun s => outer_heldOr s (outer_neutralAheadOrder s)) e
  | sectionClear q p => exact request_pending (fun s => outer_heldOr s (outer_sectionClearOrder s)) e
  | clearLockout q p => exact request_pending outer_clearLockoutOrder e
  | loweringOrder q p => exact request_pending (outer_loweringOrderReply · p) e
  | channelReset q p => exact request_pending (fun s => outer_channelOrder s (outer_channelResetOrder s) p) e
  | channelLower q p => exact request_pending (fun s => outer_channelOrder s (outer_channelLowerOrder s) p) e
  | remap q p => exact request_pending (outer_remapOrder · p) e
  | iceSeason q p => exact request_pending (outer_iceSeasonOrder · p) e
  | scrape q p => exact request_pending outer_scrapeOrder e
  | noticeFilter q p => exact request_pending (outer_noticeFilterOrder · p) e
  | partReset q p => exact request_pending outer_partResetOrder e
  | sampleTimeout => exact react_pending_of_outer (outer_expireSample s) e
  | raiseWindowExpiry c => exact react_pending_of_outer (outer_expireRaiseWindow s c) e
  | lowerWindowExpiry c => exact react_pending_of_outer (outer_expireLowerWindow s c) e
  | lowerRepetition c => exact react_pending_of_outer (outer_expireLowerRep s c) e
  | cooldownExpiry c => exact react_pending_of_outer (outer_expireCooldown s c) e
  | channelSustainTimerExpiry c => exact react_pending_of_outer (outer_expireChanSustain s c) e
  | breakerSustainTimerExpiry => exact react_pending_of_outer (outer_expireBreakerSustain s) e
  | openRepetition => exact react_pending_of_outer (outer_expireOpenRep s) e
  | recognitionDeadlineExpiry => exact react_pending_of_outer (outer_expireRecognition s) e
  | switchWindowExpiry => exact react_pending_of_outer (outer_expireSwitchWindow s) e
  | settleIntervalExpiry => exact react_pending_of_outer (outer_expireSettle s) e
  | closeWindowExpiry => exact react_pending_of_outer (outer_expireCloseWindow s) e
  | openWindowExpiry => exact react_pending_of_outer (outer_expireOpenWindow s) e
  | neutralDeadlineExpiry => exact react_pending_of_outer (outer_expireNeutral s) e
  | tripQuietTimerExpiry => exact react_pending_of_outer (outer_expireTripQuiet s) e
  | passTimerExpiry z => exact react_pending_of_outer (outer_expirePassTimer s z) e
  | staggerTimerExpiry => exact react_pending_of_outer (outer_expireStagger s) e
  | passCompletion z => exact react_pending_of_outer (outer_expirePass s z) e
  | scrapeTimerExpiry => exact react_pending_of_outer (outer_expireScrape s) e
  | nodeSilence n => exact react_pending_of_outer (outer_nodeSilenced s n) e
  | ackDeadlineExpiry n => exact react_pending_of_outer (outer_ackTimeout s n) e
  | announceRetryTimerExpiry => exact react_pending_of_outer (outer_expireAnnounce s) e
  | trainLinkSilenceExpiry => exact react_pending_of_outer (outer_expireSilence s) e

end

/-- Settles O3: the reactions of the blocks keep `outer`, and the takeover, the completions, the picks and the resets keep the queue
of waiting commands too. -/
theorem execKeepsCommandQueue : Obligations.ExecKeepsCommandQueue := fun _ _ _ e => exec_pending e

/-! ## One step (log 1, log 2) -/

section
variable {s : State}

theorem step_of_cons {c : Instr} {rest : List Instr} (waits : s.pending = c :: rest) :
    step s = exec c { s with pending := rest } := by
  rw [step, waits]

theorem step_of_nil (empty : s.pending = []) : step s = idle s := by rw [step, empty]

theorem idle_of_due {c : Instr} {l : List Instr} (due : dueNow s = c :: l) : idle s = exec c s := by rw [idle, due]

theorem idle_of_none_due (quiet : dueNow s = []) : idle s = .next (advance s) := by rw [idle, quiet]

end

/-! ### What one millisecond does to each numbered record -/

theorem advance_channel (s : State) (c : Chan) : (advance s).channels[c] = tickChan s.channels[c] := by simp [advance]

theorem advance_zone (s : State) (z : Zone) : (advance s).zones[z] = tickZone s.zones[z] := by simp [advance]

theorem advance_node (s : State) (n : Node) : (advance s).nodes[n] = tickNode s.nodes[n] := by simp [advance]

/-- Settles O1: the front of the queue decides the branch of the step. -/
theorem stepRunsFrontCommand : Obligations.StepRunsFrontCommand := fun _ _ _ waits => step_of_cons waits

/-- Settles O2: on an empty queue the list of due expiries decides; with none due the step is `advance`, which ticks each timer where
it stands and has no part in any other record. -/
theorem idleStepIsTheClock : Obligations.IdleStepIsTheClock := by
  refine ⟨fun s c l empty due => (step_of_nil empty).trans (idle_of_due due), fun s empty quiet => ?_⟩
  refine ⟨advance s, (step_of_nil empty).trans (idle_of_none_due quiet), rfl, rfl, advance_channel s, rfl, advance_zone s,
    advance_node s, ?_⟩
  and_intros <;> rfl

end Sys2Proof.Machine
